-- ==== Sys2Proof/Word.lean ====
section
/-! DEFINITION. The plain types of the block's values (spec `00_scope.md` R6).
Times (R19, decision D8) and counters (R12, D5) are `Nat`, as the spec says; pin names are opaque (R41) and are `Nat` too, log 7.
Identifiers (`id` and a present `probe_ref`, R20, R21) are `Nat`s below `2^ID_W`, `ID_W` being a parameter (R5, log 18). -/

namespace Sys2Proof

/-- A 32-bit register: `shift_accumulator` (R11) and `latest_result` (R13). -/
abbrev Word := BitVec 32

/-- A logic level: `true` is logic-high, `false` is logic-low (R6). -/
abbrev Level := Bool

end Sys2Proof
end

