-- ==== Sys2Proof/Config.lean ====
section
/-! DEFINITION. The parameters of `00_scope.md` R5 and the free values. -/

namespace Sys2Proof

/-- `ENABLE_RETRIGGER` (R5, R114): whether a Query that enables an already enabled device re-arms it. -/
inductive Retrigger
  /-- It does not: only a transition arms (the spec's default). -/
  | edge
  /-- It does: `QUERY.HOLD` behaves as `QUERY.ARM`. -/
  | level
  deriving DecidableEq, Repr

/-- `TS` (R5, R127): which value a report carries as its timestamp. -/
inductive TimestampSource
  /-- `next_wake_time` as read at the `CONSUME` (decision D12). -/
  | nextWakeTime
  /-- A draw: a free value (U5). -/
  | draw
  deriving DecidableEq, Repr

/-- The parameters of R5, and the pins that some other component owns (R111 (d), R132 `RF_PINS`). -/
structure Params where
  tRetry : Nat
  tEdge : Nat
  tSample : Nat
  gainMin : Nat
  gainMax : Nat
  /-- `ID_W`, the width of `id` and of a probe reference (D21). -/
  idWidth : Nat
  enableRetrigger : Retrigger
  timestampSource : TimestampSource
  ownedPins : List Nat
  deriving DecidableEq, Repr

/-- R5: "All three delays must be greater than zero". -/
abbrev Params.legal (p : Params) : Prop :=
  0 < p.tRetry ∧ 0 < p.tEdge ∧ 0 < p.tSample

/-- The nominal and default values of R5. `T_SAMPLE` has no nominal number: 10000 is the stand-in of
`95_test_vectors.md`, DESIGN CHOICE, log 6. `ID_W` has none either: 32, DESIGN CHOICE, log 18. No pin is owned elsewhere: DESIGN CHOICE, log 14. -/
def Params.nominal : Params where
  tRetry := 200
  tEdge := 40
  tSample := 10000
  gainMin := 1
  gainMax := 3
  idWidth := 32
  enableRetrigger := .edge
  timestampSource := .nextWakeTime
  ownedPins := []

/-- The FREE VALUE of R127 and U5: the timestamp of the `n`-th report when `TS` is a draw (log 9). -/
opaque Config.drawTimestamp : Nat → Nat

/-- The FREE VALUE of `latest_result` while it has no value (R13, R25: "unspecified"), should a report read it; no run
reaches such a read (R24 (i)). It is one value, since a register's contents do not change between reads (log 5). -/
opaque Config.unwrittenResult : Word

end Sys2Proof
end

