-- ==== Sys2Proof/Syntax.lean ====
section
/-! DEFINITION. The sixteen operations of `30_encoding.md` R66, one constructor per row of the table.
Operands are those an event brings: its time `t` (R8), the sampled bit `d` where the operation uses it as
data, the request's fields. The registers an operation reads are in the state. -/

namespace Sys2Proof

inductive Instr
  /-- `NRDY`, not-ready retry (R81). -/
  | nrdy (t : Nat)
  /-- `START`, first rising half-cycle of a frame (R83). -/
  | start (t : Nat)
  /-- `RISE`, any other rising half-cycle (R82). -/
  | rise (t : Nat)
  /-- `FALLC`, falling half-cycle with capture of `d` (R84). -/
  | fallc (d : Level) (t : Nat)
  /-- `FALLX`, falling half-cycle of an extra pulse (R86). -/
  | fallx (t : Nat)
  /-- `FALLC.ENDR`, capture and completion, enabled (R85). -/
  | fallcEndr (d : Level) (t : Nat)
  /-- `FALLC.ENDS`, capture and completion, not enabled (R90). -/
  | fallcEnds (d : Level) (t : Nat)
  /-- `FALLX.ENDR`, extra pulse and completion, enabled (R87). -/
  | fallxEndr (t : Nat)
  /-- `FALLX.ENDS`, extra pulse and completion, not enabled (R89). -/
  | fallxEnds (t : Nat)
  /-- `CONFIGURE` (R62, R110). `invert` is the request's number, legal or not. -/
  | configure (id : Nat) (dataPin clockPin : Nat) (gainCode : Nat) (invert : Int) (t : Nat)
  /-- `QUERY.ARM`, enable requested while disabled (R113). -/
  | queryArm (id : Nat) (probe : Option Nat) (t : Nat)
  /-- `QUERY.HOLD`, enable requested while enabled (R114). -/
  | queryHold (id : Nat) (probe : Option Nat) (t : Nat)
  /-- `QUERY.DIS`, disable requested (R115). -/
  | queryDis (id : Nat) (probe : Option Nat) (t : Nat)
  /-- `CONSUME.IDLE`, notifier clear (R121). -/
  | consumeIdle (t : Nat)
  /-- `CONSUME.RPT`, notifier set, no probe (R122). -/
  | consumeRpt (t : Nat)
  /-- `CONSUME.PRB`, notifier set, probe linked (R123). -/
  | consumePrb (t : Nat)
  deriving DecidableEq, Repr

end Sys2Proof
end

