-- ==== Sys2Proof/Decode.lean ====
section
/-! DEFINITION. The operation selection of `30_encoding.md` R64 and R65: the match/mask rows, the decoder and,
after it, the encoder. An event word is the selector formed at an event's entry with the fields the event
brings; the spec gives it no layout in bytes (N6). -/

namespace Sys2Proof

/-- What the decoder reads: one constructor per format of `opcode_table.json`. -/
inductive EventWord
  /-- Format TICK: the 6-bit `SEL = {z, o, w, l, d, e}` (R64). -/
  | tick (sel : BitVec 6) (t : Nat)
  /-- Format CFG: no selector (R65). -/
  | configure (id : Nat) (dataPin clockPin : Nat) (gainCode : Nat) (invert : Int) (t : Nat)
  /-- Format QRY: the 2-bit `QSEL = {enable, old enabled}` (R65). -/
  | query (qsel : BitVec 2) (id : Nat) (probe : Option Nat) (t : Nat)
  /-- Format CNS: the 2-bit `CSEL = {pending, probe present}` (R65). -/
  | consume (csel : BitVec 2) (t : Nat)
  deriving DecidableEq, Repr

/-- Why a word has no operation. -/
inductive DecodeError
  /-- No row's `sel & mask = match` holds. -/
  | noRow
  /-- More than one row matches: a selector that cannot occur (R69). -/
  | manyRows
  deriving DecidableEq, Repr

/-- One row of the table. -/
structure Row (n : Nat) (α : Type) where
  mask : BitVec n
  value : BitVec n
  build : BitVec n → α

/-- R64: the row's `SEL & mask = match`. -/
def Row.hits {n : Nat} {α : Type} (sel : BitVec n) (r : Row n α) : Bool :=
  sel &&& r.mask == r.value

/-- R64: "The operation is the one row of this table whose `SEL & mask = match`". -/
def lookup {n : Nat} {α : Type} (rows : List (Row n α)) (sel : BitVec n) : Except DecodeError α :=
  match rows.filter (Row.hits sel) with
  | [] => .error .noRow
  | [r] => .ok (r.build sel)
  | _ => .error .manyRows

/-- The TICK rows of R64, in the table's order. -/
def tickRows : List (Row 6 (Nat → Instr)) :=
  [⟨0b100010, 0b100010, fun _ => .nrdy⟩,
   ⟨0b100010, 0b100000, fun _ => .start⟩,
   ⟨0b110000, 0b000000, fun _ => .rise⟩,
   ⟨0b011100, 0b011000, fun sel => .fallc (sel.getLsbD 1)⟩,
   ⟨0b011100, 0b010000, fun _ => .fallx⟩,
   ⟨0b011101, 0b011101, fun sel => .fallcEndr (sel.getLsbD 1)⟩,
   ⟨0b011101, 0b011100, fun sel => .fallcEnds (sel.getLsbD 1)⟩,
   ⟨0b011101, 0b010101, fun _ => .fallxEndr⟩,
   ⟨0b011101, 0b010100, fun _ => .fallxEnds⟩]

/-- The QRY rows of R65. -/
def queryRows : List (Row 2 (Nat → Option Nat → Nat → Instr)) :=
  [⟨0b11, 0b10, fun _ => .queryArm⟩,
   ⟨0b11, 0b11, fun _ => .queryHold⟩,
   ⟨0b10, 0b00, fun _ => .queryDis⟩]

/-- The CNS rows of R65. -/
def consumeRows : List (Row 2 (Nat → Instr)) :=
  [⟨0b10, 0b00, fun _ => .consumeIdle⟩,
   ⟨0b11, 0b10, fun _ => .consumeRpt⟩,
   ⟨0b11, 0b11, fun _ => .consumePrb⟩]

/-- The decoder. `CONFIGURE` is alone in its format (R65, mask 0). -/
def decode : EventWord → Except DecodeError Instr
  | .tick sel t => (lookup tickRows sel).map (· t)
  | .configure id dataPin clockPin g inv t => .ok (.configure id dataPin clockPin g inv t)
  | .query qsel id probe t => (lookup queryRows qsel).map (· id probe t)
  | .consume csel t => (lookup consumeRows csel).map (· t)

/-- `SEL[1]`, the sampled bit, in its place. -/
def selSample (d : Level) : BitVec 6 := if d then 0b000010 else 0b000000

/-- The encoder: the match word of the operation's row of R64 or R65, with the sampled bit in `SEL[1]` where the
operation uses it. Bits the row's mask ignores are 0. -/
def encode : Instr → EventWord
  | .nrdy t => .tick 0b100010 t
  | .start t => .tick 0b100000 t
  | .rise t => .tick 0b000000 t
  | .fallc d t => .tick (0b011000 ||| selSample d) t
  | .fallx t => .tick 0b010000 t
  | .fallcEndr d t => .tick (0b011101 ||| selSample d) t
  | .fallcEnds d t => .tick (0b011100 ||| selSample d) t
  | .fallxEndr t => .tick 0b010101 t
  | .fallxEnds t => .tick 0b010100 t
  | .configure id dataPin clockPin g inv t => .configure id dataPin clockPin g inv t
  | .queryArm id probe t => .query 0b10 id probe t
  | .queryHold id probe t => .query 0b11 id probe t
  | .queryDis id probe t => .query 0b00 id probe t
  | .consumeIdle t => .consume 0b00 t
  | .consumeRpt t => .consume 0b10 t
  | .consumePrb t => .consume 0b11 t

/-- The row's mask, with the bits that carry an operand added: the bits of a word that an operation fixes. -/
def Instr.usedBits : Instr → BitVec 6
  | .nrdy _ => 0b100010
  | .start _ => 0b100010
  | .rise _ => 0b110000
  | .fallc _ _ => 0b011110
  | .fallx _ => 0b011100
  | .fallcEndr _ _ => 0b011111
  | .fallcEnds _ _ => 0b011111
  | .fallxEndr _ => 0b011101
  | .fallxEnds _ => 0b011101
  | .configure _ _ _ _ _ _ => 0b000000
  | .queryArm _ _ _ => 0b000011
  | .queryHold _ _ _ => 0b000011
  | .queryDis _ _ _ => 0b000010
  | .consumeIdle _ => 0b000010
  | .consumeRpt _ => 0b000011
  | .consumePrb _ => 0b000011

/-- Two words of one format with the same fields whose selectors agree on the bits of `used`. -/
def EventWord.agreeOn (used : BitVec 6) : EventWord → EventWord → Bool
  | .tick a t, .tick b u => a &&& used == b &&& used && t == u
  | .configure i d c g v t, .configure i' d' c' g' v' t' =>
      i == i' && d == d' && c == c' && g == g' && v == v' && t == t'
  | .query a i p t, .query b j q u =>
      a.setWidth 6 &&& used == b.setWidth 6 &&& used && i == j && p == q && t == u
  | .consume a t, .consume b u => a.setWidth 6 &&& used == b.setWidth 6 &&& used && t == u
  | _, _ => false

/-- A table word of eight bits as an event word. The table numbers a TICK selector as bits 5..0 and a QRY or CNS
selector as bits 1..0, and its words collide across the formats; bits 7..6, which no row has, name the format:
0 TICK, 1 CFG, 2 QRY, 3 CNS. The table gives the events' fields no bits: they are 0 and `none`, and for
`CONFIGURE` one legal request. DESIGN CHOICE, log 3. -/
def tableWord (nbits w : Nat) : Option EventWord :=
  if 2 ^ nbits ≤ w ∨ 256 ≤ w then none
  else if w < 64 then some (.tick (BitVec.ofNat 6 w) 0)
  else if w = 64 then some (.configure 0 0 1 1 1 0)
  else if 128 ≤ w ∧ w < 132 then some (.query (BitVec.ofNat 2 w) 0 none 0)
  else if 192 ≤ w ∧ w < 196 then some (.consume (BitVec.ofNat 2 w) 0)
  else none

/-- The instruction the decoder reads from a table word (log 3). -/
def decodeTableWord (nbits w : Nat) : Option Instr :=
  match tableWord nbits w with
  | none => none
  | some ew => (decode ew).toOption

end Sys2Proof
end

