-- ==== Sys2Proof/Machine/State.lean ====
section
/-! DEFINITION. The Device record of `10_state.md`, the events the outside presents, the output events, the
state after reset, and the reasons a step can stop. -/

namespace Sys2Proof.Machine

/-- R15, D4: the multiplier's type is `{+1, -1}`. -/
inductive Invert
  | plus
  | minus
  deriving DecidableEq, Repr

/-- How a line is configured by the GPIO interface (R42, R110). -/
inductive LineMode
  /-- Not bound to a pin: before `CONFIGURE` (R150). -/
  | unbound
  /-- `configure_input(pin, pull-down)`. -/
  | inputPullDown
  /-- `configure_output(pin, level)`. -/
  | output
  deriving DecidableEq, Repr

/-- What the peer does to `data_line` at a `TICK`: a free input (R22, R27). -/
inductive Drive
  | undriven
  | low
  | high
  deriving DecidableEq, Repr

/-- The four event kinds of R8. Each carries the time at which it happens. -/
inductive Event
  /-- The scheduler invokes the engine; the peer drives the data line (R80). -/
  | tick (drive : Drive) (t : Nat)
  /-- The host's Configure request (R62). -/
  | configure (id : Nat) (dataPin clockPin : Nat) (gainCode : Nat) (invert : Int) (t : Nat)
  /-- The host's Query request (R63). -/
  | query (id : Nat) (enable : Bool) (probe : Option Nat) (t : Nat)
  /-- One pass of the task-context handler (R120). -/
  | consume (t : Nat)
  deriving DecidableEq, Repr

/-- The output events of R67. -/
inductive Output
  /-- `Reschedule(T)`. -/
  | reschedule (at_ : Nat)
  /-- `Stop`. -/
  | stop
  /-- `StateReport(id, timestamp, value)`. -/
  | stateReport (id : Nat) (timestamp : Nat) (value : Word)
  /-- `ProbeSample(probe_ref, value, timestamp)`. -/
  | probeSample (probe : Nat) (value : Word) (timestamp : Nat)
  deriving DecidableEq, Repr

/-- Every piece of state of `10_state.md` R10 to R23, the time of the latest event (R132 `RF_TIME`), the
parameters of R5, and the model's own `inbox`, `outbox` and `draws` (log 1, 9, 10). -/
structure State where
  params : Params
  devExists : Bool
  id : Nat
  gainCode : Nat
  invert : Invert
  pulseIndex : Nat
  shiftAccumulator : Word
  latestResult : Option Word
  nextWakeTime : Option Nat
  enabled : Bool
  pending : Bool
  armed : Bool
  probeRef : Option Nat
  clockLine : Level
  dataPin : Nat
  clockPin : Nat
  dataLineMode : LineMode
  clockLineMode : LineMode
  lastTime : Nat
  inbox : List Event
  outbox : List Output
  draws : Nat
  deriving DecidableEq, Repr

/-- Before `CONFIGURE` (R10, R25, R150): the record does not exist, neither line is bound, `latest_result` and
`next_wake_time` have no value. The other values are DESIGN CHOICE, log 4, 6, 8, 9, 14; no event can observe
them before `CONFIGURE` has written them. -/
def State.reset : State where
  params := Params.nominal
  devExists := false
  id := 0
  gainCode := 0
  invert := .plus
  pulseIndex := 0
  shiftAccumulator := 0
  latestResult := none
  nextWakeTime := none
  enabled := false
  pending := false
  armed := false
  probeRef := none
  clockLine := false
  dataPin := 0
  clockPin := 0
  dataLineMode := .unbound
  clockLineMode := .unbound
  lastTime := 0
  inbox := []
  outbox := []
  draws := 0

/-- R130: "Every admitted event of every operation rule completes; none can fault." There is no fault, so the type has no
constructor. -/
inductive Fault
  deriving DecidableEq, Repr

/-- R132: the model gives the event no meaning. Every one is safe: no claim holds of a refused run. -/
inductive Refusal
  /-- An operation without a meaning in `exec`. Safe. -/
  | notModelled (mnemonic : String)
  /-- `RF_ABSENT`: `QUERY`, `TICK` or `CONSUME` before `CONFIGURE`. Safe. -/
  | absent
  /-- `RF_RECONFIG`: a second `CONFIGURE`. Safe. -/
  | reconfig
  /-- `RF_GAIN`: `CONFIGURE` with `gain_code` outside `GAIN_MIN .. GAIN_MAX`. Safe. -/
  | gain
  /-- `RF_INVERT`: `CONFIGURE` with `invert` not `+1` or `-1`. Safe. -/
  | invert
  /-- `RF_PINS`: `CONFIGURE` with equal pins, or a pin owned elsewhere. Safe. -/
  | pins
  /-- `RF_ID`: `QUERY` for another `id`. Safe. -/
  | id
  /-- `RF_NOT_ARMED`: `TICK` while `armed = 0`. Safe. -/
  | notArmed
  /-- `RF_EARLY`: `TICK` before `next_wake_time`. Safe. -/
  | early
  /-- `RF_TIME`: any event earlier than an earlier event. Safe. -/
  | time
  /-- The selector formed by the step names no operation (R69: it cannot occur). Raised by `step`. Safe. -/
  | undecodable (e : DecodeError)
  deriving DecidableEq, Repr

/-- What an operation or a step answers. -/
abbrev Answer := Host.Outcome State Fault Refusal

end Sys2Proof.Machine
end

