-- ==== Sys2Proof/Machine/Operands.lean ====
section
/-! DEFINITION. The arithmetic of the block: `41_sample_assembler.md` R100 to R106 and the frame of R60. -/

namespace Sys2Proof.Machine

/-- `FRAME_LEN(g) = DATA_HALF + 2*g = 48 + 2*g` (R5, R60), on naturals without wrap-around (R106). -/
def frameLength (g : Nat) : Nat := 48 + 2 * g

/-- R101: the accumulator bit of the falling half-cycle `pulse_index = h`. -/
def capturePosition (h : Nat) : Nat := 31 - h / 2

/-- `zext_32(d)` (R6). -/
def levelWord (d : Level) : Word := (BitVec.ofBool d).setWidth 32

/-- R84, R105: `SA | (zext_32(d) << (31 - PI / 2))`. -/
def captureInto (sa : Word) (pi : Nat) (d : Level) : Word :=
  sa ||| (levelWord d <<< capturePosition pi)

/-- The multiplier as a number (R15). -/
def Invert.toInt : Invert → Int
  | .plus => 1
  | .minus => -1

/-- The multiplier as a 32-bit word (R103). -/
def Invert.toWord (inv : Invert) : Word := BitVec.ofInt 32 inv.toInt

/-- The multiplier of a legal request (R15); `CONFIGURE` refuses any other number first (R111 (c)). -/
def Invert.ofInt (n : Int) : Invert := if n = -1 then .minus else .plus

/-- R100: arithmetic right shift by 8, then multiply by `invert`, in 32 bits. -/
def assemble (sa : Word) (inv : Invert) : Word := sa.sshiftRight 8 * inv.toWord

/-- The `ID_W` bits of an identifier field (R5, R62, R63): its low bits where the number is wider, log 18. -/
def identifier (p : Params) (n : Nat) : Nat := n % 2 ^ p.idWidth

/-- `PortRead(data_line)` (R42): the level the line has, an undriven line being pulled down (R22, D2). -/
def portRead : Drive → Level
  | .undriven => false
  | .low => false
  | .high => true

end Sys2Proof.Machine
end

