-- ==== Sys2Proof/Machine/Flags.lean ====
section
/-! DEFINITION. The conditions formed at an event's entry: the selectors of `30_encoding.md` R64 and R65. -/

namespace Sys2Proof.Machine

/-- `z`: `pulse_index = 0`. -/
def flagZ (pi : Nat) : Bool := pi == 0

/-- `o`: `pulse_index[0]`. -/
def flagO (pi : Nat) : Bool := pi % 2 == 1

/-- `w`: `pulse_index < 48`, inside the data window. -/
def flagW (pi : Nat) : Bool := decide (pi < 48)

/-- `l`: `pulse_index + 1 = 48 + 2*gain_code`. -/
def flagL (pi g : Nat) : Bool := pi + 1 == frameLength g

/-- R64: `SEL = {z, o, w, l, d, e}`. -/
def tickSelector (pi g : Nat) (d : Level) (e : Bool) : BitVec 6 :=
  BitVec.ofBool (flagZ pi) ++ BitVec.ofBool (flagO pi) ++ BitVec.ofBool (flagW pi) ++
    BitVec.ofBool (flagL pi g) ++ BitVec.ofBool d ++ BitVec.ofBool e

/-- R65: `QSEL = {enable, Dev.enabled}`. -/
def querySelector (enable old : Bool) : BitVec 2 := BitVec.ofBool enable ++ BitVec.ofBool old

/-- R65: `CSEL = {Dev.pending, Dev.probe_ref != none}`. -/
def consumeSelector (pending : Bool) (probe : Option Nat) : BitVec 2 :=
  BitVec.ofBool pending ++ BitVec.ofBool probe.isSome

/-- The word an event presents to the decoder: its selector, formed from the state before the event and the level
sampled at entry (R64, R65, R80, R112, R120), and its fields. -/
def eventWord (e : Event) (s : State) : EventWord :=
  match e with
  | .tick drive t => .tick (tickSelector s.pulseIndex s.gainCode (portRead drive) s.enabled) t
  | .configure id dataPin clockPin g inv t => .configure id dataPin clockPin g inv t
  | .query id enable probe t => .query (querySelector enable s.enabled) id probe t
  | .consume t => .consume (consumeSelector s.pending s.probeRef) t

end Sys2Proof.Machine
end

