-- ==== Sys2Proof/WellFormed.lean ====
section
/-! DEFINITION. Which field values an operation may carry (`30_encoding.md` R62, R63, R68). An ill-formed `CONFIGURE`
still has a decoding and is refused by its meaning (R111); an identifier is read in its `ID_W` bits (log 18). -/

namespace Sys2Proof

/-- R62: `gain_code` in `GAIN_MIN .. GAIN_MAX`. -/
abbrev Params.gainLegal (p : Params) (g : Nat) : Prop := p.gainMin ≤ g ∧ g ≤ p.gainMax

/-- R62: `invert` is `+1` or `-1`. -/
abbrev invertLegal (inv : Int) : Prop := inv = 1 ∨ inv = -1

/-- R62, R111 (d): two different pins, neither owned by another component. -/
abbrev Params.pinsLegal (p : Params) (dataPin clockPin : Nat) : Prop :=
  dataPin ≠ clockPin ∧ dataPin ∉ p.ownedPins ∧ clockPin ∉ p.ownedPins

/-- R62, R63: an identifier of `ID_W` bits. -/
abbrev Params.identifierLegal (p : Params) (n : Nat) : Prop := n < 2 ^ p.idWidth

/-- R63: `none` or an identifier of `ID_W` bits. -/
def Params.probeLegal (p : Params) (probe : Option Nat) : Bool :=
  match probe with
  | none => true
  | some n => decide (p.identifierLegal n)

/-- An operation whose fields all have legal values. -/
def Instr.wellFormed (p : Params) : Instr → Bool
  | .nrdy _ => true
  | .start _ => true
  | .rise _ => true
  | .fallc _ _ => true
  | .fallx _ => true
  | .fallcEndr _ _ => true
  | .fallcEnds _ _ => true
  | .fallxEndr _ => true
  | .fallxEnds _ => true
  | .configure id dataPin clockPin g inv _ =>
      decide (p.identifierLegal id) && decide (p.gainLegal g) && decide (invertLegal inv) && decide (p.pinsLegal dataPin clockPin)
  | .queryArm id probe _ => decide (p.identifierLegal id) && p.probeLegal probe
  | .queryHold id probe _ => decide (p.identifierLegal id) && p.probeLegal probe
  | .queryDis id probe _ => decide (p.identifierLegal id) && p.probeLegal probe
  | .consumeIdle _ => true
  | .consumeRpt _ => true
  | .consumePrb _ => true

end Sys2Proof
end

