-- ==== Sys2Proof/Machine/Ops.lean ====
section
/-! DEFINITION. The shared operations: the primitives of R7 and of the collaborators (R142, R143), the admission
rules (R80, R111, R112, R120, R132), the completion suffix (R88) and the report (R122, R123). The block has no
exception entry and no return (R130); the completion's hand-over (R137) stands in its place. -/

namespace Sys2Proof.Machine

/-! ### Primitives -/

/-- The event happens at time `t` (R8). -/
def State.seen (t : Nat) (s : State) : State := { s with lastTime := t }

/-- `emit E` (R7, R67). -/
def State.emit (o : Output) (s : State) : State := { s with outbox := s.outbox ++ [o] }

/-- `PortWrite(clock_line, b)` (R42). -/
def State.portWrite (b : Level) (s : State) : State := { s with clockLine := b }

/-- `schedule(at, engine)` (R142). -/
def State.schedule (due : Nat) (s : State) : State :=
  { s with armed := true, nextWakeTime := some due }

/-- `cancel()` (R142). -/
def State.cancel (s : State) : State := { s with armed := false }

/-- `wake(notifier)` (R142). -/
def State.wake (s : State) : State := { s with pending := true }

/-- The clear of `is_woken(notifier)` (R51, R120). -/
def State.clearPending (s : State) : State := { s with pending := false }

/-- `Dev.PI <- n`. -/
def State.setPulseIndex (n : Nat) (s : State) : State := { s with pulseIndex := n }

/-- `Dev.SA <- w`. -/
def State.setAccumulator (w : Word) (s : State) : State := { s with shiftAccumulator := w }

/-- `Dev.LR <- w`. -/
def State.setResult (w : Word) (s : State) : State := { s with latestResult := some w }

/-- The two writes of the common part of `QUERY` (R112). -/
def State.setRequest (enable : Bool) (probe : Option Nat) (s : State) : State :=
  { s with probeRef := probe.map (identifier s.params), enabled := enable }

/-! ### Steps of a TICK -/

/-- `emit Reschedule(at)` with `Dev.NWT <- at` (R80, R142). -/
def State.reschedule (due : Nat) (s : State) : State := (s.schedule due).emit (.reschedule due)

/-- `emit Stop` with `Dev.armed <- 0`, `NWT` unchanged (R80, R89, D19). -/
def State.stop (s : State) : State := s.cancel.emit .stop

/-- The capture of R84. -/
def State.capture (d : Level) (s : State) : State :=
  s.setAccumulator (captureInto s.shiftAccumulator s.pulseIndex d)

/-- `PortWrite(clock_line, b)` then `Dev.PI <- PI + 1` (R82 to R86). -/
def State.halfCycle (b : Level) (s : State) : State :=
  (s.portWrite b).setPulseIndex (s.pulseIndex + 1)

/-- The completion suffix `END` (R88): the result, then the notifier, then the two clears. -/
def State.complete (s : State) : State :=
  (((s.setResult (assemble s.shiftAccumulator s.invert)).wake).setPulseIndex 0).setAccumulator 0

/-! ### QUERY.ARM -/

/-- R113: cancel, clear, drive the clock low, arm at `t + T_RETRY`. -/
def State.arm (t : Nat) (s : State) : State :=
  ((((s.cancel.setPulseIndex 0).setAccumulator 0).portWrite false).schedule (t + s.params.tRetry))

/-! ### CONSUME -/

/-- R127: the timestamp `TS`. With `TS` a draw, or while `next_wake_time` has no value (U7), it is the free value
(log 9). -/
def State.timestamp (s : State) : Nat :=
  match s.params.timestampSource, s.nextWakeTime with
  | .nextWakeTime, some n => n
  | _, _ => Config.drawTimestamp s.draws

/-- One timestamp has been taken (log 9). -/
def State.tookTimestamp (s : State) : State := { s with draws := s.draws + 1 }

/-- R122: one report of `v` with timestamp `ts`. -/
def State.report (ts : Nat) (v : Word) (s : State) : State := s.emit (.stateReport s.id ts v)

/-- R123: the sample for the linked probe. -/
def State.sample (ts : Nat) (v : Word) (s : State) : State :=
  match s.probeRef with
  | none => s
  | some p => s.emit (.probeSample p v ts)

/-- The read of `latest_result` by a report (R122, R123). While it has no value (R13), which no run reaches, it is the free
value (log 5): the report is made all the same (R130). -/
def State.reportedResult (s : State) : Word :=
  match s.latestResult with
  | some v => v
  | none => Config.unwrittenResult

/-! ### CONFIGURE -/

/-- R110: the record as a legal request creates it. `latest_result` and `next_wake_time` have no value. -/
def State.configured (id : Nat) (dataPin clockPin : Nat) (g : Nat) (inv : Int) (s : State) : State :=
  { s with
    devExists := true
    id := identifier s.params id
    dataPin := dataPin
    dataLineMode := .inputPullDown
    clockPin := clockPin
    clockLineMode := .output
    clockLine := true
    gainCode := g
    invert := Invert.ofInt inv
    pulseIndex := 0
    shiftAccumulator := 0
    enabled := false
    armed := false
    pending := false
    probeRef := none
    latestResult := none
    nextWakeTime := none }

/-! ### Admission (R132) -/

/-- R80: `t >= Dev.NWT`. An armed engine without a wake time does not occur (log 16). -/
def State.due (t : Nat) (s : State) : Bool :=
  match s.nextWakeTime with
  | none => false
  | some n => decide (n ≤ t)

/-- `RF_TIME` (R132). -/
def timeRefusal (t : Nat) (s : State) : Option Refusal :=
  if t < s.lastTime then some .time else none

/-- R80, R132: when a `TICK` is refused. The order of the tests is DESIGN CHOICE, log 8. -/
def tickRefusal (t : Nat) (s : State) : Option Refusal :=
  if s.devExists = false then some .absent
  else if s.armed = false then some .notArmed
  else if s.due t = false then some .early
  else timeRefusal t s

/-- R111, R132: when a `CONFIGURE` is refused, in the order of R110's requirements. -/
def configureRefusal (dataPin clockPin : Nat) (g : Nat) (inv : Int) (t : Nat) (s : State) : Option Refusal :=
  if s.devExists = true then some .reconfig
  else if ¬ s.params.gainLegal g then some .gain
  else if ¬ invertLegal inv then some .invert
  else if ¬ s.params.pinsLegal dataPin clockPin then some .pins
  else timeRefusal t s

/-- R112, R132: when a `QUERY` is refused. -/
def queryRefusal (id : Nat) (t : Nat) (s : State) : Option Refusal :=
  if s.devExists = false then some .absent
  else if identifier s.params id ≠ s.id then some .id
  else timeRefusal t s

/-- R120, R132: when a `CONSUME` is refused. -/
def consumeRefusal (t : Nat) (s : State) : Option Refusal :=
  if s.devExists = false then some .absent
  else timeRefusal t s

/-- An admitted event has its effect; a refused one has none. -/
def admitted (r : Option Refusal) (effect : Answer) : Answer :=
  match r with
  | some reason => .refused reason
  | none => effect

end Sys2Proof.Machine
end

