-- ==== Sys2Proof/Machine/Engine.lean ====
section
/-! DEFINITION. The nine TICK operations of `40_engine_tick.md`. -/

namespace Sys2Proof.Machine

/-- R81. -/
def execNrdy (t : Nat) (s : State) : Answer :=
  admitted (tickRefusal t s) (.next ((s.seen t).reschedule (t + s.params.tRetry)))

/-- R83. -/
def execStart (t : Nat) (s : State) : Answer :=
  admitted (tickRefusal t s)
    (.next ((((s.seen t).portWrite true).setPulseIndex 1).reschedule (t + s.params.tEdge)))

/-- R82. -/
def execRise (t : Nat) (s : State) : Answer :=
  admitted (tickRefusal t s) (.next (((s.seen t).halfCycle true).reschedule (t + s.params.tEdge)))

/-- R84. -/
def execFallc (d : Level) (t : Nat) (s : State) : Answer :=
  admitted (tickRefusal t s)
    (.next ((((s.seen t).capture d).halfCycle false).reschedule (t + s.params.tEdge)))

/-- R86. -/
def execFallx (t : Nat) (s : State) : Answer :=
  admitted (tickRefusal t s) (.next (((s.seen t).halfCycle false).reschedule (t + s.params.tEdge)))

/-- R85. -/
def execFallcEndr (d : Level) (t : Nat) (s : State) : Answer :=
  admitted (tickRefusal t s)
    (.next (((((s.seen t).capture d).halfCycle false).complete).reschedule (t + s.params.tSample)))

/-- R90. -/
def execFallcEnds (d : Level) (t : Nat) (s : State) : Answer :=
  admitted (tickRefusal t s) (.next ((((s.seen t).capture d).halfCycle false).complete).stop)

/-- R87. -/
def execFallxEndr (t : Nat) (s : State) : Answer :=
  admitted (tickRefusal t s)
    (.next ((((s.seen t).halfCycle false).complete).reschedule (t + s.params.tSample)))

/-- R89. -/
def execFallxEnds (t : Nat) (s : State) : Answer :=
  admitted (tickRefusal t s) (.next (((s.seen t).halfCycle false).complete).stop)

end Sys2Proof.Machine
end

