-- ==== Sys2Proof/Machine/Lifecycle.lean ====
section
/-! DEFINITION. The four operations of the host: `42_lifecycle.md`. -/

namespace Sys2Proof.Machine

/-- R110, R111. -/
def execConfigure (id : Nat) (dataPin clockPin : Nat) (g : Nat) (inv : Int) (t : Nat) (s : State) : Answer :=
  admitted (configureRefusal dataPin clockPin g inv t s)
    (.next ((s.seen t).configured id dataPin clockPin g inv))

/-- R113, after the common part R112. -/
def execQueryArm (id : Nat) (probe : Option Nat) (t : Nat) (s : State) : Answer :=
  admitted (queryRefusal id t s) (.next (((s.seen t).setRequest true probe).arm t))

/-- R114, after the common part R112: nothing else with `ENABLE_RETRIGGER = edge`, as R113 with `level` (D10). -/
def execQueryHold (id : Nat) (probe : Option Nat) (t : Nat) (s : State) : Answer :=
  admitted (queryRefusal id t s)
    (.next (match s.params.enableRetrigger with
      | .edge => (s.seen t).setRequest true probe
      | .level => ((s.seen t).setRequest true probe).arm t))

/-- R115, after the common part R112: nothing else. -/
def execQueryDis (id : Nat) (probe : Option Nat) (t : Nat) (s : State) : Answer :=
  admitted (queryRefusal id t s) (.next ((s.seen t).setRequest false probe))

end Sys2Proof.Machine
end

