-- ==== Sys2Proof/Machine/Notifier.lean ====
section
/-! DEFINITION. The three operations of the task: `43_notifier_report.md`. In each the test-and-clear of `pending`
comes first (R120). -/

namespace Sys2Proof.Machine

/-- R121. -/
def execConsumeIdle (t : Nat) (s : State) : Answer :=
  admitted (consumeRefusal t s) (.next (s.seen t).clearPending)

/-- R122. -/
def execConsumeRpt (t : Nat) (s : State) : Answer :=
  admitted (consumeRefusal t s)
    (.next ((s.seen t).clearPending.report s.timestamp s.reportedResult).tookTimestamp)

/-- R123: the probe's sample first, then the report, with one value and one timestamp. -/
def execConsumePrb (t : Nat) (s : State) : Answer :=
  admitted (consumeRefusal t s)
    (.next (((s.seen t).clearPending.sample s.timestamp s.reportedResult).report s.timestamp
      s.reportedResult).tookTimestamp)

end Sys2Proof.Machine
end

