-- ==== Sys2Proof/Machine/Dispatch.lean ====
section
/-! DEFINITION. One arm per operation. -/

namespace Sys2Proof.Machine

def exec (i : Instr) (s : State) : Host.Outcome State Fault Refusal :=
  match i with
  -- engine
  | .nrdy t => Sys2Proof.Machine.execNrdy t s
  | .start t => Sys2Proof.Machine.execStart t s
  | .rise t => Sys2Proof.Machine.execRise t s
  | .fallc d t => Sys2Proof.Machine.execFallc d t s
  | .fallx t => Sys2Proof.Machine.execFallx t s
  | .fallcEndr d t => Sys2Proof.Machine.execFallcEndr d t s
  | .fallcEnds d t => Sys2Proof.Machine.execFallcEnds d t s
  | .fallxEndr t => Sys2Proof.Machine.execFallxEndr t s
  | .fallxEnds t => Sys2Proof.Machine.execFallxEnds t s
  -- host
  | .configure id dataPin clockPin g inv t => Sys2Proof.Machine.execConfigure id dataPin clockPin g inv t s
  | .queryArm id probe t => Sys2Proof.Machine.execQueryArm id probe t s
  | .queryHold id probe t => Sys2Proof.Machine.execQueryHold id probe t s
  | .queryDis id probe t => Sys2Proof.Machine.execQueryDis id probe t s
  -- task
  | .consumeIdle t => Sys2Proof.Machine.execConsumeIdle t s
  | .consumeRpt t => Sys2Proof.Machine.execConsumeRpt t s
  | .consumePrb t => Sys2Proof.Machine.execConsumePrb t s

end Sys2Proof.Machine
end

