-- ==== Sys2Proof/Machine/Stage.lean ====
section
/-! DEFINITION. Putting an event word where the next step takes its event, with the registers that its selector
bits speak of (log 2, 3). -/

namespace Sys2Proof.Machine

/-- A `pulse_index` and a `gain_code` for which `o`, `w` and `l` of `SEL` are those of `sel`, for every `sel` that
can occur (R69), `z` going before the other bits; the present `gain_code` where it will do. -/
def stagedCount (sel : BitVec 6) (g : Nat) : Nat × Nat :=
  if sel.getLsbD 5 then (0, g)
  else if sel.getLsbD 4 = false then (if sel.getLsbD 3 then (2, g) else (48, max 1 g))
  else if sel.getLsbD 3 then (if sel.getLsbD 2 then (47, 0) else (1, g))
  else if sel.getLsbD 2 then (49, 1) else (49, 2)

/-- The state in which the next step takes an event that presents the word `ew`. -/
def stage (ew : EventWord) (s : State) : State :=
  match ew with
  | .tick sel t =>
      { s with
        devExists := true
        armed := true
        nextWakeTime := some t
        lastTime := min s.lastTime t
        pulseIndex := (stagedCount sel s.gainCode).1
        gainCode := (stagedCount sel s.gainCode).2
        enabled := sel.getLsbD 0
        inbox := .tick (if sel.getLsbD 1 then .high else .low) t :: s.inbox }
  | .configure id dataPin clockPin g inv t =>
      { s with
        devExists := false
        lastTime := min s.lastTime t
        inbox := .configure id dataPin clockPin g inv t :: s.inbox }
  | .query qsel id probe t =>
      { s with
        devExists := true
        id := identifier s.params id
        lastTime := min s.lastTime t
        enabled := qsel.getLsbD 0
        inbox := .query id (qsel.getLsbD 1) probe t :: s.inbox }
  | .consume csel t =>
      { s with
        devExists := true
        lastTime := min s.lastTime t
        pending := csel.getLsbD 1
        probeRef := if csel.getLsbD 0 then some (s.probeRef.getD 0) else none
        latestResult := if csel.getLsbD 1 then some (s.latestResult.getD 0) else s.latestResult
        inbox := .consume t :: s.inbox }

end Sys2Proof.Machine
end

