-- ==== Sys2Proof/Machine/Step.lean ====
section
/-! DEFINITION. One step: the oldest event of `inbox` happens (R8, R48). -/

namespace Sys2Proof.Machine

/-- The oldest event presents its word (R80, R112, R120) and the one operation it selects is performed (R73). With no
event nothing happens (log 1). -/
def step (s : State) : Host.Outcome State Fault Refusal :=
  match s.inbox with
  | [] => .next s
  | e :: rest =>
    let s' : State := { s with inbox := rest }
    match decode (eventWord e s') with
    | .ok i => exec i s'
    | .error r => .refused (.undecodable r)

/-- A word of the opcode table placed where the next step takes its event (log 2, 3). -/
def State.withFetchWord (s : State) (nbits w : Nat) : State :=
  match tableWord nbits w with
  | none => s
  | some ew => stage ew s

end Sys2Proof.Machine
end

