-- ==== Sys2Proof/Safety.lean ====
section
/-! DEFINITION. The terms claims are stated in: admission (R80, R112, R120), the refusal table (R132), the invariants
of `10_state.md` R24, the lifecycle conditions (R118), quiescence (R164), and equality up to time (R161). -/

namespace Sys2Proof

/-- Parameters without the delays and the timestamp's source. -/
def Params.untimed (p : Params) : Params :=
  { p with tRetry := 0, tEdge := 0, tSample := 0, timestampSource := .draw }

end Sys2Proof

namespace Sys2Proof.Machine

/-! ### Admission, said of the state and the operands alone -/

/-- R80: a `TICK` at `t` is admitted, and time does not run backwards (R132 `RF_TIME`). -/
def State.tickAdmits (t : Nat) (s : State) : Prop :=
  s.devExists = true ∧ s.armed = true ∧ (∃ n, s.nextWakeTime = some n ∧ n ≤ t) ∧ s.lastTime ≤ t

/-- R112: a `QUERY` for `id`, a field of `ID_W` bits (log 18), at `t` is admitted. -/
def State.queryAdmits (id : Nat) (t : Nat) (s : State) : Prop :=
  s.devExists = true ∧ id % 2 ^ s.params.idWidth = s.id ∧ s.lastTime ≤ t

/-- R120: a `CONSUME` at `t` is admitted. -/
def State.consumeAdmits (t : Nat) (s : State) : Prop :=
  s.devExists = true ∧ s.lastTime ≤ t

/-- R110: a `CONFIGURE` at `t` is admitted. -/
def State.configureAdmits (dataPin clockPin : Nat) (g : Nat) (inv : Int) (t : Nat) (s : State) : Prop :=
  s.devExists = false ∧ (s.params.gainMin ≤ g ∧ g ≤ s.params.gainMax) ∧ (inv = 1 ∨ inv = -1) ∧
    (dataPin ≠ clockPin ∧ dataPin ∉ s.params.ownedPins ∧ clockPin ∉ s.params.ownedPins) ∧ s.lastTime ≤ t

/-- The time an event carries (R8). -/
def Event.time : Event → Nat
  | .tick _ t => t
  | .configure _ _ _ _ _ t => t
  | .query _ _ _ t => t
  | .consume t => t

/-- The table of R132: the event and the condition of each code. -/
def Refusal.condition : Refusal → Event → State → Prop
  | .absent, .tick _ _, s => s.devExists = false
  | .absent, .query _ _ _ _, s => s.devExists = false
  | .absent, .consume _, s => s.devExists = false
  | .reconfig, .configure _ _ _ _ _ _, s => s.devExists = true
  | .gain, .configure _ _ _ g _ _, s => g < s.params.gainMin ∨ s.params.gainMax < g
  | .invert, .configure _ _ _ _ inv _, _ => inv ≠ 1 ∧ inv ≠ -1
  | .pins, .configure _ dataPin clockPin _ _ _, s =>
      dataPin = clockPin ∨ dataPin ∈ s.params.ownedPins ∨ clockPin ∈ s.params.ownedPins
  | .id, .query req _ _ _, s => req % 2 ^ s.params.idWidth ≠ s.id
  | .notArmed, .tick _ _, s => s.armed = false
  | .early, .tick _ t, s => ∀ n, s.nextWakeTime = some n → t < n
  | .time, e, s => e.time < s.lastTime
  | _, _, _ => False

/-! ### The invariants of R24 -/

/-- R24 (e) to (i), R13's range, R14, R25's lines and R118's last sentence, of a created record. -/
structure State.Good (s : State) : Prop where
  /-- R14: a legal `gain_code`. -/
  gain : s.params.gainMin ≤ s.gainCode ∧ s.gainCode ≤ s.params.gainMax
  /-- R111 (d): two different pins, neither owned elsewhere. -/
  pins : s.dataPin ≠ s.clockPin ∧ s.dataPin ∉ s.params.ownedPins ∧ s.clockPin ∉ s.params.ownedPins
  /-- R5, R20, R21: `id` and a present `probe_ref` are identifiers of `ID_W` bits. -/
  identifiers : s.id < 2 ^ s.params.idWidth ∧ ∀ p, s.probeRef = some p → p < 2 ^ s.params.idWidth
  /-- R25: the data line is an input with pull-down, the clock line an output. -/
  lines : s.dataLineMode = .inputPullDown ∧ s.clockLineMode = .output
  /-- R24 (e). -/
  count : s.pulseIndex < 48 + 2 * s.gainCode
  /-- R24 (f): with `n = min(PI / 2, 24)` bits captured, `SA[31-n:0] = 0`, and `SA[7:0] = 0`. -/
  accumulator : s.shiftAccumulator.toNat % 2 ^ (32 - min (s.pulseIndex / 2) 24) = 0
  /-- R24 (g): after the first `QUERY.ARM` (`NWT` has a value), `CLK = PI[0]`. -/
  clock : s.nextWakeTime ≠ none → s.clockLine = (s.pulseIndex % 2 == 1)
  /-- R24 (g), before it: `CLK = 1` and `PI = 0`; nothing is armed and no result exists. -/
  fresh : s.nextWakeTime = none →
    s.clockLine = true ∧ s.pulseIndex = 0 ∧ s.armed = false ∧ s.latestResult = none
  /-- R24 (h). -/
  idle : s.armed = false → s.pulseIndex = 0 ∧ s.shiftAccumulator = 0
  /-- R24 (i). -/
  result : s.pending = true → s.latestResult ≠ none
  /-- R13: the range of `latest_result`. -/
  range : ∀ v, s.latestResult = some v → -8388608 ≤ v.toInt ∧ v.toInt ≤ 8388608
  /-- R118: `EN = 1` with `armed = 0` cannot occur. -/
  enabledArmed : s.enabled = true → s.armed = true

/-- R24: "Between events, once `Dev.exists = 1`, the following hold."; and R5: "All three delays must be greater than
zero". -/
def State.Inv (s : State) : Prop := s.params.legal ∧ (s.devExists = true → s.Good)

/-- R164. -/
def State.quiescent (s : State) : Prop := s.armed = false ∧ s.pending = false

/-! ### The lifecycle conditions of R118 -/

inductive Condition
  | absent
  | configuredIdle
  | running
  | draining
  | stopped
  deriving DecidableEq, Repr

/-- R118's table, read from `exists`, `EN`, `armed` and whether the engine was ever armed. -/
def State.condition (s : State) : Condition :=
  if s.devExists = false then .absent
  else if s.enabled = true then .running
  else if s.armed = true then .draining
  else if s.nextWakeTime = none then .configuredIdle
  else .stopped

/-! ### Completions and reports along a run (R125) -/

/-- The next step is a `TICK` that completes a frame (R88). -/
def State.completesNext (s : State) : Bool :=
  match s.inbox with
  | .tick _ _ :: _ => s.pulseIndex % 2 == 1 && s.pulseIndex + 1 == 48 + 2 * s.gainCode
  | _ => false

/-- How many of the next `k` steps complete a frame, up to the first stop. -/
def completions : Nat → State → Nat
  | 0, _ => 0
  | k + 1, s =>
    (if s.completesNext then 1 else 0) +
      match step s with
      | .next s' => completions k s'
      | _ => 0

/-- A `StateReport`. -/
def Output.isReport : Output → Bool
  | .stateReport _ _ _ => true
  | _ => false

/-- How many `StateReport`s have been emitted. -/
def State.reports (s : State) : Nat := s.outbox.countP Output.isReport

/-! ### Equality up to time (R94, R161) -/

/-- An output event without its times. -/
def Output.untimed : Output → Output
  | .reschedule _ => .reschedule 0
  | .stop => .stop
  | .stateReport i _ v => .stateReport i 0 v
  | .probeSample p v _ => .probeSample p v 0

/-- The state without its times: what R161 calls the data values, the edges on `clock_line` and the reports. -/
def State.untimed (s : State) : State :=
  { s with
    params := s.params.untimed
    nextWakeTime := s.nextWakeTime.map fun _ => 0
    lastTime := 0
    outbox := s.outbox.map Output.untimed
    inbox := []
    draws := 0 }

end Sys2Proof.Machine

namespace Sys2Proof

/-- The operations of a `TICK` (R66). -/
def Instr.isTick : Instr → Bool
  | .nrdy _ => true
  | .start _ => true
  | .rise _ => true
  | .fallc _ _ => true
  | .fallx _ => true
  | .fallcEndr _ _ => true
  | .fallcEnds _ _ => true
  | .fallxEndr _ => true
  | .fallxEnds _ => true
  | .configure _ _ _ _ _ _ => false
  | .queryArm _ _ _ => false
  | .queryHold _ _ _ => false
  | .queryDis _ _ _ => false
  | .consumeIdle _ => false
  | .consumeRpt _ => false
  | .consumePrb _ => false

/-- The operations of a `QUERY` (R66). -/
def Instr.isQuery : Instr → Bool
  | .nrdy _ => false
  | .start _ => false
  | .rise _ => false
  | .fallc _ _ => false
  | .fallx _ => false
  | .fallcEndr _ _ => false
  | .fallcEnds _ _ => false
  | .fallxEndr _ => false
  | .fallxEnds _ => false
  | .configure _ _ _ _ _ _ => false
  | .queryArm _ _ _ => true
  | .queryHold _ _ _ => true
  | .queryDis _ _ _ => true
  | .consumeIdle _ => false
  | .consumeRpt _ => false
  | .consumePrb _ => false

/-- The operations of a `CONSUME` (R66). -/
def Instr.isConsume : Instr → Bool
  | .nrdy _ => false
  | .start _ => false
  | .rise _ => false
  | .fallc _ _ => false
  | .fallx _ => false
  | .fallcEndr _ _ => false
  | .fallcEnds _ _ => false
  | .fallxEndr _ => false
  | .fallxEnds _ => false
  | .configure _ _ _ _ _ _ => false
  | .queryArm _ _ _ => false
  | .queryHold _ _ _ => false
  | .queryDis _ _ _ => false
  | .consumeIdle _ => true
  | .consumeRpt _ => true
  | .consumePrb _ => true

/-- The same operation at another time. -/
def Instr.withTime (u : Nat) : Instr → Instr
  | .nrdy _ => .nrdy u
  | .start _ => .start u
  | .rise _ => .rise u
  | .fallc d _ => .fallc d u
  | .fallx _ => .fallx u
  | .fallcEndr d _ => .fallcEndr d u
  | .fallcEnds d _ => .fallcEnds d u
  | .fallxEndr _ => .fallxEndr u
  | .fallxEnds _ => .fallxEnds u
  | .configure id dataPin clockPin g inv _ => .configure id dataPin clockPin g inv u
  | .queryArm id probe _ => .queryArm id probe u
  | .queryHold id probe _ => .queryHold id probe u
  | .queryDis id probe _ => .queryDis id probe u
  | .consumeIdle _ => .consumeIdle u
  | .consumeRpt _ => .consumeRpt u
  | .consumePrb _ => .consumePrb u

end Sys2Proof
end

