-- ==== Sys2Proof/Certificates/Slice0/Obligations.lean ====
section
/-! DEFINITION. The statements for the provers. Each docstring names the rule of the spec. In every statement `lastTime`
is the model's record of the latest event's time, which R132 `RF_TIME` reads (log 8), `outbox` holds what the spec's
`emit` has produced (log 10), and `draws` counts the timestamps taken (log 9). -/

open Sys2Proof Sys2Proof.Machine

/-! ## What each operation does, and that it leaves everything else unchanged -/

/-- R81: no clock edge, `PI` and `SA` unchanged, retry after `T_RETRY`. -/
def Obligations.NrdyOnlyReschedulesAfterRetryDelay : Prop :=
  ∀ (t : Nat) (s : State), s.tickAdmits t →
    exec (.nrdy t) s = .next { s with
      lastTime := t
      nextWakeTime := some (t + s.params.tRetry)
      outbox := s.outbox ++ [.reschedule (t + s.params.tRetry)] }

/-- R83: the clock rises, `PI` becomes 1, nothing is captured. -/
def Obligations.StartRaisesClockAndCountsOne : Prop :=
  ∀ (t : Nat) (s : State), s.tickAdmits t →
    exec (.start t) s = .next { s with
      lastTime := t
      clockLine := true
      pulseIndex := 1
      nextWakeTime := some (t + s.params.tEdge)
      outbox := s.outbox ++ [.reschedule (t + s.params.tEdge)] }

/-- R82: the clock rises, `PI` advances, nothing is captured. -/
def Obligations.RiseRaisesClockAndAdvances : Prop :=
  ∀ (t : Nat) (s : State), s.tickAdmits t →
    exec (.rise t) s = .next { s with
      lastTime := t
      clockLine := true
      pulseIndex := s.pulseIndex + 1
      nextWakeTime := some (t + s.params.tEdge)
      outbox := s.outbox ++ [.reschedule (t + s.params.tEdge)] }

/-- R84: the sampled bit is ORed into bit `31 - PI / 2`, `PI` being the value before the advance; the clock falls. -/
def Obligations.FallcCapturesLowersClockAndAdvances : Prop :=
  ∀ (d : Bool) (t : Nat) (s : State), s.tickAdmits t →
    exec (.fallc d t) s = .next { s with
      lastTime := t
      shiftAccumulator :=
        s.shiftAccumulator ||| ((BitVec.ofBool d).setWidth 32 <<< (31 - s.pulseIndex / 2))
      clockLine := false
      pulseIndex := s.pulseIndex + 1
      nextWakeTime := some (t + s.params.tEdge)
      outbox := s.outbox ++ [.reschedule (t + s.params.tEdge)] }

/-- R86: the clock falls, `PI` advances, `SA` is unchanged. -/
def Obligations.FallxLowersClockAndAdvances : Prop :=
  ∀ (t : Nat) (s : State), s.tickAdmits t →
    exec (.fallx t) s = .next { s with
      lastTime := t
      clockLine := false
      pulseIndex := s.pulseIndex + 1
      nextWakeTime := some (t + s.params.tEdge)
      outbox := s.outbox ++ [.reschedule (t + s.params.tEdge)] }

/-- R85 with R88: the bit just captured takes part in the conversion; `invert` is `+1` or `-1`. -/
def Obligations.FallcEndrCapturesThenCompletesAndReschedules : Prop :=
  ∀ (d : Bool) (t : Nat) (s : State), s.tickAdmits t →
    ∀ sa : Word, sa = s.shiftAccumulator ||| ((BitVec.ofBool d).setWidth 32 <<< (31 - s.pulseIndex / 2)) →
      exec (.fallcEndr d t) s = .next { s with
        lastTime := t
        clockLine := false
        latestResult := some (sa.sshiftRight 8 * (if s.invert = .plus then 1 else -1))
        pending := true
        pulseIndex := 0
        shiftAccumulator := 0
        nextWakeTime := some (t + s.params.tSample)
        outbox := s.outbox ++ [.reschedule (t + s.params.tSample)] }

/-- R90 with R88: as R85 for the capture; the engine stops and `NWT` is unchanged (D19). -/
def Obligations.FallcEndsCapturesThenCompletesAndStops : Prop :=
  ∀ (d : Bool) (t : Nat) (s : State), s.tickAdmits t →
    ∀ sa : Word, sa = s.shiftAccumulator ||| ((BitVec.ofBool d).setWidth 32 <<< (31 - s.pulseIndex / 2)) →
      exec (.fallcEnds d t) s = .next { s with
        lastTime := t
        clockLine := false
        latestResult := some (sa.sshiftRight 8 * (if s.invert = .plus then 1 else -1))
        pending := true
        pulseIndex := 0
        shiftAccumulator := 0
        armed := false
        outbox := s.outbox ++ [.stop] }

/-- R87 with R88: nothing is captured, the frame completes, the engine is rescheduled after `T_SAMPLE`. -/
def Obligations.FallxEndrCompletesAndReschedules : Prop :=
  ∀ (t : Nat) (s : State), s.tickAdmits t →
    exec (.fallxEndr t) s = .next { s with
      lastTime := t
      clockLine := false
      latestResult := some (s.shiftAccumulator.sshiftRight 8 * (if s.invert = .plus then 1 else -1))
      pending := true
      pulseIndex := 0
      shiftAccumulator := 0
      nextWakeTime := some (t + s.params.tSample)
      outbox := s.outbox ++ [.reschedule (t + s.params.tSample)] }

/-- R89 with R88: the frame completes and the engine stops; `NWT` is unchanged (D19). -/
def Obligations.FallxEndsCompletesAndStops : Prop :=
  ∀ (t : Nat) (s : State), s.tickAdmits t →
    exec (.fallxEnds t) s = .next { s with
      lastTime := t
      clockLine := false
      latestResult := some (s.shiftAccumulator.sshiftRight 8 * (if s.invert = .plus then 1 else -1))
      pending := true
      pulseIndex := 0
      shiftAccumulator := 0
      armed := false
      outbox := s.outbox ++ [.stop] }

/-- R110: the table of R25 after a legal first request. The request's `id` is a field of `ID_W` bits (R62): `id % 2^ID_W` is
`id` for every identifier of that width; for a wider number it is the model's choice, log 18. -/
def Obligations.ConfigureCreatesTheRecord : Prop :=
  ∀ (id dataPin clockPin g : Nat) (inv : Int) (t : Nat) (s : State),
    s.configureAdmits dataPin clockPin g inv t →
    exec (.configure id dataPin clockPin g inv t) s = .next { s with
      lastTime := t
      devExists := true
      id := id % 2 ^ s.params.idWidth
      dataPin := dataPin
      dataLineMode := .inputPullDown
      clockPin := clockPin
      clockLineMode := .output
      clockLine := true
      gainCode := g
      invert := if inv = 1 then .plus else .minus
      pulseIndex := 0
      shiftAccumulator := 0
      enabled := false
      armed := false
      pending := false
      probeRef := none
      latestResult := none
      nextWakeTime := none }

/-- R113 with R112: cancel, clear, drive the clock low, arm at `t + T_RETRY`. `LR` and `pending` keep their values. The
request's `id` and probe reference are fields of `ID_W` bits (R63): the remainder by `2^ID_W` is the number itself for every
identifier of that width; for a wider number it is the model's choice, log 18. -/
def Obligations.QueryArmRestartsTheEngine : Prop :=
  ∀ (id : Nat) (probe : Option Nat) (t : Nat) (s : State), s.queryAdmits id t →
    exec (.queryArm id probe t) s = .next { s with
      lastTime := t
      enabled := true
      probeRef := probe.map (· % 2 ^ s.params.idWidth)
      armed := true
      pulseIndex := 0
      shiftAccumulator := 0
      clockLine := false
      nextWakeTime := some (t + s.params.tRetry) }

/-- R114 with R112, for both settings of `ENABLE_RETRIGGER` (D10): with `edge` only `probe_ref` changes, with `level`
it behaves as R113. `EN` is 1 before (the operation's `QSEL`). The request's `id` and probe reference are read in
`ID_W` bits, which for a wider number is the model's choice, log 18. -/
def Obligations.QueryHoldKeepsTheFrameUnlessLevelRetrigger : Prop :=
  ∀ (id : Nat) (probe : Option Nat) (t : Nat) (s : State), s.queryAdmits id t → s.enabled = true →
    (s.params.enableRetrigger = .edge →
      exec (.queryHold id probe t) s = .next { s with
        lastTime := t, probeRef := probe.map (· % 2 ^ s.params.idWidth) }) ∧
    (s.params.enableRetrigger = .level →
      exec (.queryHold id probe t) s = exec (.queryArm id probe t) s ∧
      ∃ s', exec (.queryHold id probe t) s = .next s')

/-- R115 with R112: `EN` becomes 0 and `probe_ref` is the request's, and nothing else changes. The request's `id` and probe
reference are read in `ID_W` bits, which for a wider number is the model's choice, log 18. -/
def Obligations.QueryDisClearsEnabledAndSetsProbe : Prop :=
  ∀ (id : Nat) (probe : Option Nat) (t : Nat) (s : State), s.queryAdmits id t →
    exec (.queryDis id probe t) s = .next { s with
      lastTime := t, enabled := false, probeRef := probe.map (· % 2 ^ s.params.idWidth) }

/-- R121: with the flag clear, nothing is read, written or emitted. -/
def Obligations.ConsumeIdleHasNoEffect : Prop :=
  ∀ (t : Nat) (s : State), s.consumeAdmits t → s.pending = false →
    exec (.consumeIdle t) s = .next { s with lastTime := t }

/-- R122: the flag is cleared and one report of `LR` is emitted. Its timestamp is a draw in this claim, except that
with `TS = next_wake_time` (D12) it is that register's value. -/
def Obligations.ConsumeRptReportsLatestResult : Prop :=
  ∀ (t : Nat) (s : State) (v : Word), s.consumeAdmits t → s.latestResult = some v →
    ∃ ts, exec (.consumeRpt t) s = .next { s with
        lastTime := t
        pending := false
        draws := s.draws + 1
        outbox := s.outbox ++ [.stateReport s.id ts v] } ∧
      ∀ n, s.params.timestampSource = .nextWakeTime → s.nextWakeTime = some n → ts = n

/-- R123: the probe's sample first, then the report, both with one value and one timestamp. -/
def Obligations.ConsumePrbSamplesThenReports : Prop :=
  ∀ (t : Nat) (s : State) (v : Word) (p : Nat),
    s.consumeAdmits t → s.latestResult = some v → s.probeRef = some p →
    ∃ ts, exec (.consumePrb t) s = .next { s with
        lastTime := t
        pending := false
        draws := s.draws + 1
        outbox := s.outbox ++ [.probeSample p v ts, .stateReport s.id ts v] } ∧
      ∀ n, s.params.timestampSource = .nextWakeTime → s.nextWakeTime = some n → ts = n

/-! ## The step, the selectors and the words -/

/-- R8, R48, R73: the oldest event happens, and the one operation its word selects is performed on the state the event
finds. The inbox is the model's own (log 1). -/
def Obligations.StepPerformsTheSelectedOperation : Prop :=
  ∀ (s : State) (e : Event) (rest : List Event) (i : Instr), s.inbox = e :: rest →
    decode (eventWord e { s with inbox := rest }) = .ok i →
    step s = exec i { s with inbox := rest }

/-- Log 1: without an event nothing happens. -/
def Obligations.StepWithoutEventChangesNothing : Prop :=
  ∀ s : State, s.inbox = [] → step s = .next s

/-- R64: which operation a `TICK` performs, in the source's terms, for every counter value, gain code, level and
`enabled`. -/
def Obligations.TickSelectsBySourceConditions : Prop :=
  ∀ (drive : Drive) (t : Nat) (s : State),
    decode (eventWord (.tick drive t) s) = .ok (
      if s.pulseIndex = 0 then (if drive = .high then .nrdy t else .start t)
      else if s.pulseIndex % 2 = 0 then .rise t
      else if s.pulseIndex + 1 = 48 + 2 * s.gainCode then
        (if s.pulseIndex < 48 then
          (if s.enabled = true then .fallcEndr (decide (drive = .high)) t
            else .fallcEnds (decide (drive = .high)) t)
          else (if s.enabled = true then .fallxEndr t else .fallxEnds t))
      else (if s.pulseIndex < 48 then .fallc (decide (drive = .high)) t else .fallx t))

/-- R65: which operation a `QUERY`, a `CONSUME` and a `CONFIGURE` performs. -/
def Obligations.RequestsSelectByFlags : Prop :=
  (∀ (id : Nat) (en : Bool) (probe : Option Nat) (t : Nat) (s : State),
    decode (eventWord (.query id en probe t) s) = .ok (
      if en = true then (if s.enabled = true then .queryHold id probe t else .queryArm id probe t)
      else .queryDis id probe t)) ∧
  (∀ (t : Nat) (s : State),
    decode (eventWord (.consume t) s) = .ok (
      if s.pending = true then (if s.probeRef = none then .consumeRpt t else .consumePrb t)
      else .consumeIdle t)) ∧
  (∀ (id dataPin clockPin g : Nat) (inv : Int) (t : Nat) (s : State),
    decode (eventWord (.configure id dataPin clockPin g inv t) s) = .ok (.configure id dataPin clockPin g inv t))

/-- R69: the selector values that cannot occur, for any counter value and gain code. -/
def Obligations.ImpossibleSelectorsNeverFormed : Prop :=
  ∀ (pi g : Nat) (d e : Bool), ∀ sel, sel = tickSelector pi g d e →
    ¬(sel.getLsbD 5 = true ∧ sel.getLsbD 4 = true) ∧
    ¬(sel.getLsbD 5 = true ∧ sel.getLsbD 3 = false) ∧
    ¬(sel.getLsbD 2 = true ∧ sel.getLsbD 4 = false) ∧
    ¬(sel.getLsbD 5 = true ∧ sel.getLsbD 2 = true) ∧
    (sel.getLsbD 4 = true → sel.getLsbD 3 = true → sel.getLsbD 2 = true → g = 0 ∧ pi = 47)

/-- R64, R65: words written out from the tables decode to their operations. -/
def Obligations.TableWordsDecodeToTheirRows : Prop :=
  decode (.tick 0b101011 7) = .ok (.nrdy 7) ∧
  decode (.tick 0b101001 7) = .ok (.start 7) ∧
  decode (.tick 0b000010 7) = .ok (.rise 7) ∧
  decode (.tick 0b011011 7) = .ok (.fallc true 7) ∧
  decode (.tick 0b010001 7) = .ok (.fallx 7) ∧
  decode (.tick 0b011111 7) = .ok (.fallcEndr true 7) ∧
  decode (.tick 0b011100 7) = .ok (.fallcEnds false 7) ∧
  decode (.tick 0b010111 7) = .ok (.fallxEndr 7) ∧
  decode (.tick 0b010100 7) = .ok (.fallxEnds 7) ∧
  decode (.query 0b10 3 none 7) = .ok (.queryArm 3 none 7) ∧
  decode (.query 0b11 3 (some 5) 7) = .ok (.queryHold 3 (some 5) 7) ∧
  decode (.query 0b01 3 none 7) = .ok (.queryDis 3 none 7) ∧
  decode (.consume 0b01 7) = .ok (.consumeIdle 7) ∧
  decode (.consume 0b10 7) = .ok (.consumeRpt 7) ∧
  decode (.consume 0b11 7) = .ok (.consumePrb 7)

/-- R64, R65: every operation is read back from its word with every operand, and a word decodes to an operation only if
it agrees with that operation's own word on every bit the row fixes or reads. -/
def Obligations.DecodeAndEncodeAgree : Prop :=
  (∀ i : Instr, decode (encode i) = .ok i) ∧
  (∀ (w : EventWord) (i : Instr), decode w = .ok i → w.agreeOn i.usedBits (encode i) = true)

/-- Log 2, 3: a table word placed by `withFetchWord` is the operation that the very next step performs. -/
def Obligations.PlacedTableWordIsPerformedNext : Prop :=
  ∀ (s : State) (nbits w : Nat) (i : Instr), decodeTableWord nbits w = some i →
    step (s.withFetchWord nbits w) = exec i { s.withFetchWord nbits w with inbox := s.inbox }

/-! ## Refusals and faults -/

/-- R132: an event is refused exactly when a row of the table says so, and the code is that of such a row. The
model's choices: a missing wake time counts as early (log 16), and a number wider than `ID_W` bits is read in its low
`ID_W` bits (log 18). -/
def Obligations.RefusedExactlyByTheTable : Prop :=
  ∀ (s : State) (e : Event) (rest : List Event), s.inbox = e :: rest →
    (∀ r, step s = .refused r → r.condition e s) ∧
    ((∃ r : Refusal, r.condition e s) → ∃ r, step s = .refused r)

/-- R130: "Every admitted event of every operation rule completes; none can fault." For every state, reached or not. -/
def Obligations.AdmittedEventsComplete : Prop :=
  ∀ s : State, (∀ f, step s ≠ .fault f) ∧
    ∀ (e : Event) (rest : List Event), s.inbox = e :: rest → (∀ r : Refusal, ¬ r.condition e s) →
      ∃ s', step s = .next s'

/-- R122, R123, R130 where `latest_result` has no value (R13, R25), which no run reaches (R24 (i), U6): the report
completes all the same, clears the flag and carries some value; nothing writes `latest_result`. That it completes there is
the model's choice, log 5; the timestamp is as in the two statements about the reports (log 9). -/
def Obligations.ReportWithoutResultCompletes : Prop :=
  ∀ (t : Nat) (s : State), s.consumeAdmits t → s.latestResult = none →
    ∃ (ts : Nat) (v : Word),
      exec (.consumeRpt t) s = .next { s with
        lastTime := t
        pending := false
        draws := s.draws + 1
        outbox := s.outbox ++ [.stateReport s.id ts v] } ∧
      ∀ p, s.probeRef = some p → exec (.consumePrb t) s = .next { s with
        lastTime := t
        pending := false
        draws := s.draws + 1
        outbox := s.outbox ++ [.probeSample p v ts, .stateReport s.id ts v] }

/-! ## Reset and the invariants -/

/-- R10, R25, R150 and log 4: the state before `CONFIGURE`. -/
def Obligations.ResetHasNoRecord : Prop :=
  State.reset.devExists = false ∧ State.reset.dataLineMode = .unbound ∧
    State.reset.clockLineMode = .unbound ∧ State.reset.latestResult = none ∧
    State.reset.nextWakeTime = none ∧ State.reset.inbox = [] ∧ State.reset.outbox = []

/-- R24, R118 and R5's condition on the delays at reset. -/
def Obligations.ResetMeetsTheInvariants : Prop := State.reset.Inv

/-- R24 (e) to (i), R5 (positive delays, `ID_W`), R13, R14, R25, R118: every step from a state that meets
the invariants gives one that does. -/
def Obligations.EveryStepKeepsTheInvariants : Prop :=
  ∀ s s' : State, s.Inv → step s = .next s' → s'.Inv

/-- R10, R14, R15, R21, R62, R150: a created record stays, and what `CONFIGURE` wrote once never changes; the
parameters never change. -/
def Obligations.RecordIsNeverDestroyedOrReconfigured : Prop :=
  ∀ s s' : State, step s = .next s' →
    s'.params = s.params ∧
    (s.devExists = true →
      s'.devExists = true ∧ s'.id = s.id ∧ s'.gainCode = s.gainCode ∧ s'.invert = s.invert ∧
      s'.dataPin = s.dataPin ∧ s'.clockPin = s.clockPin ∧
      s'.dataLineMode = s.dataLineMode ∧ s'.clockLineMode = s.clockLineMode)

/-- R5 ("All three delays must be greater than zero"), R91, R113: what a `TICK` or a `QUERY` schedules lies strictly after
the event, for all positive delays and any lateness; and no step changes the wake time to one that is not strictly later
than its event. -/
def Obligations.ScheduledWakeIsStrictlyLater : Prop :=
  ∀ (s s' : State) (e : Event) (rest : List Event), s.Inv → s.inbox = e :: rest → step s = .next s' →
    (∀ d t, e = .tick d t → s'.armed = true → ∃ n, s'.nextWakeTime = some n ∧ t < n) ∧
    (∀ id p t, e = .query id true p t → s.enabled = false ∨ s.params.enableRetrigger = .level →
      s'.armed = true ∧ ∃ n, s'.nextWakeTime = some n ∧ t < n) ∧
    (s'.nextWakeTime ≠ s.nextWakeTime → ∀ n, s'.nextWakeTime = some n → s'.lastTime < n)

/-- R8, R132 `RF_TIME`: an event that happens leaves its time, and time never decreases. -/
def Obligations.TimeNeverDecreases : Prop :=
  ∀ (s s' : State) (e : Event) (rest : List Event), s.inbox = e :: rest → step s = .next s' →
    s'.lastTime = e.time ∧ s.lastTime ≤ s'.lastTime ∧ s'.inbox = rest

/-! ## Who may touch what (R26) -/

/-- R26, column "engine": what a `TICK` leaves alone, and the only ways it writes the flags. -/
def Obligations.TickTouchesOnlyTheEnginesState : Prop :=
  ∀ (i : Instr) (s s' : State), i.isTick = true → exec i s = .next s' →
    s'.enabled = s.enabled ∧ s'.gainCode = s.gainCode ∧ s'.invert = s.invert ∧ s'.id = s.id ∧
    s'.probeRef = s.probeRef ∧ s'.devExists = s.devExists ∧ s'.params = s.params ∧
    s'.dataPin = s.dataPin ∧ s'.clockPin = s.clockPin ∧
    s'.dataLineMode = s.dataLineMode ∧ s'.clockLineMode = s.clockLineMode ∧
    s'.inbox = s.inbox ∧ s'.draws = s.draws ∧
    (s.pending = true → s'.pending = true) ∧
    ∃ o, s'.outbox = s.outbox ++ [o] ∧
      ((s'.armed = true ∧ ∃ T, s'.nextWakeTime = some T ∧ o = .reschedule T) ∨
        (s'.armed = false ∧ s'.nextWakeTime = s.nextWakeTime ∧ o = .stop))

/-- R26, column "host", for `QUERY`: `latest_result`, `pending` and the configuration are untouched, nothing is
emitted, and the counter and accumulator are written only with 0. -/
def Obligations.QueryTouchesOnlyTheHostsState : Prop :=
  ∀ (i : Instr) (s s' : State), i.isQuery = true → exec i s = .next s' →
    s'.latestResult = s.latestResult ∧ s'.pending = s.pending ∧ s'.gainCode = s.gainCode ∧
    s'.invert = s.invert ∧ s'.id = s.id ∧ s'.devExists = s.devExists ∧ s'.params = s.params ∧
    s'.dataPin = s.dataPin ∧ s'.clockPin = s.clockPin ∧
    s'.dataLineMode = s.dataLineMode ∧ s'.clockLineMode = s.clockLineMode ∧
    s'.inbox = s.inbox ∧ s'.outbox = s.outbox ∧ s'.draws = s.draws ∧
    ((s'.pulseIndex = s.pulseIndex ∧ s'.shiftAccumulator = s.shiftAccumulator ∧
        s'.clockLine = s.clockLine ∧ s'.armed = s.armed ∧ s'.nextWakeTime = s.nextWakeTime) ∨
      (s'.pulseIndex = 0 ∧ s'.shiftAccumulator = 0 ∧ s'.clockLine = false ∧ s'.armed = true ∧
        s'.enabled = true ∧ s'.nextWakeTime = some (s'.lastTime + s.params.tRetry)))

/-- R26, column "task": a `CONSUME` clears `pending`, emits, and touches nothing else; nothing it emits is a schedule
decision. -/
def Obligations.ConsumeTouchesOnlyTheNotifier : Prop :=
  ∀ (i : Instr) (s s' : State), i.isConsume = true → exec i s = .next s' →
    s'.pending = false ∧
    s = { s' with
      pending := s.pending
      lastTime := s.lastTime
      outbox := s.outbox
      draws := s.draws } ∧
    ∃ os : List Output, s'.outbox = s.outbox ++ os ∧ ∀ T, .reschedule T ∉ os ∧ .stop ∉ os

/-! ## The conversion -/

/-- R101, R105: with `h` a falling half-cycle of the data window, bit `31 - h / 2` becomes its OR with the level and no
other bit changes. -/
def Obligations.CaptureSetsExactlyItsBit : Prop :=
  ∀ (sa : Word) (h : Nat) (d : Bool) (j : Nat), h % 2 = 1 → h < 48 → j < 32 →
    (captureInto sa h d).getLsbD j = (sa.getLsbD j || (decide (j = 31 - h / 2) && d)) ∧
    8 ≤ 31 - h / 2 ∧ 31 - h / 2 ≤ 31

/-- R100, R102, R103, R104: as numbers, the result is `floor(signed_32(SA) / 256)` times `invert`, exactly, for every
accumulator; its range is that of R104. -/
def Obligations.AssembleIsExact : Prop :=
  ∀ (sa : Word) (inv : Invert),
    (assemble sa inv).toInt = sa.toInt / 256 * inv.toInt ∧
    (inv = .plus → -8388608 ≤ (assemble sa inv).toInt ∧ (assemble sa inv).toInt ≤ 8388607) ∧
    (inv = .minus → -8388607 ≤ (assemble sa inv).toInt ∧ (assemble sa inv).toInt ≤ 8388608) ∧
    (assemble sa .minus).toInt = -(assemble sa .plus).toInt

/-! ## A frame -/

/-- R60, R92, R101: from `PI = 0` with the line low, `j` half-cycles into a frame at any gain code, whatever the events
after them: the counter is `j`, the clock is high exactly while `j` is odd, and the accumulator holds exactly the bits
sampled at the falling half-cycles of the data window so far; but for the schedule, the time and the `Reschedule` outputs
(R91) everything else is as it was. -/
def Obligations.FrameInProgressHoldsItsBits : Prop :=
  ∀ (s : State) (drives : Nat → Drive) (times : Nat → Nat) (rest : List Event) (j n : Nat),
    s.devExists = true → s.armed = true → s.pulseIndex = 0 → s.shiftAccumulator = 0 →
    s.nextWakeTime = some n → n ≤ times 0 → s.lastTime ≤ times 0 →
    (∀ k, times k + s.params.tEdge ≤ times (k + 1)) →
    portRead (drives 0) = false →
    0 < j → j < 48 + 2 * s.gainCode →
    s.inbox = (List.range j).map (fun k => .tick (drives k) (times k)) ++ rest →
    ∃ sa : Word, Host.Core.run core j s = .next { s with
        pulseIndex := j
        clockLine := j % 2 == 1
        shiftAccumulator := sa
        nextWakeTime := some (times (j - 1) + s.params.tEdge)
        lastTime := times (j - 1)
        outbox := s.outbox ++ (List.range j).map (fun k => .reschedule (times k + s.params.tEdge))
        inbox := rest } ∧
      ∀ b, b < 32 → sa.getLsbD b =
        (decide (8 ≤ b) && decide (2 * (31 - b) + 1 < j) && portRead (drives (2 * (31 - b) + 1)))

/-- R92, R107 (the spec's closed form, which it derives itself): a whole frame takes exactly `48 + 2*G` ticks, for every
natural gain code, any lateness and any bits; its result is `INV * signed_24(F)` with `F` the 24 sampled bits, first
bit most significant; the notifier is set; the counter, accumulator and clock are 0; the engine stays armed exactly if
`enabled`, with the wake time of R91. -/
def Obligations.FrameResultIsInvertTimesSignedField : Prop :=
  ∀ (s : State) (drives : Nat → Drive) (times : Nat → Nat) (rest : List Event) (n : Nat) (field : BitVec 24),
    s.devExists = true → s.armed = true → s.pulseIndex = 0 → s.shiftAccumulator = 0 →
    s.nextWakeTime = some n → n ≤ times 0 → s.lastTime ≤ times 0 →
    (∀ k, times k + s.params.tEdge ≤ times (k + 1)) →
    portRead (drives 0) = false →
    (∀ k, k < 24 → field.getLsbD (23 - k) = portRead (drives (2 * k + 1))) →
    s.inbox = (List.range (48 + 2 * s.gainCode)).map (fun k => .tick (drives k) (times k)) ++ rest →
    ∃ (s' : State) (v : Word), Host.Core.run core (48 + 2 * s.gainCode) s = .next s' ∧
      s'.latestResult = some v ∧ v.toInt = s.invert.toInt * field.toInt ∧
      s'.pending = true ∧ s'.pulseIndex = 0 ∧ s'.shiftAccumulator = 0 ∧ s'.clockLine = false ∧
      s'.armed = s.enabled ∧ s'.enabled = s.enabled ∧ s'.inbox = rest ∧
      s'.nextWakeTime = some (if s.enabled = true
        then times (47 + 2 * s.gainCode) + s.params.tSample
        else times (46 + 2 * s.gainCode) + s.params.tEdge)

/-- R81 (d), R163: while the line stays high, arbitrarily many retries change nothing but the schedule: the counter (0), the
accumulator, the clock line and everything else keep their values, the engine stays armed, the next retry is due
`T_RETRY` after the last, and nothing is emitted but one `Reschedule` a retry. -/
def Obligations.NotReadyRetriesForever : Prop :=
  ∀ (m : Nat) (s : State) (times : Nat → Nat) (rest : List Event) (n : Nat),
    s.devExists = true → s.armed = true → s.pulseIndex = 0 →
    s.nextWakeTime = some n → n ≤ times 0 → s.lastTime ≤ times 0 →
    (∀ k, times k + s.params.tRetry ≤ times (k + 1)) →
    s.inbox = (List.range m).map (fun k => .tick .high (times k)) ++ rest →
    Host.Core.run core m s = .next { s with
      nextWakeTime := if m = 0 then some n else some (times (m - 1) + s.params.tRetry)
      lastTime := if m = 0 then s.lastTime else times (m - 1)
      outbox := s.outbox ++ (List.range m).map (fun k => .reschedule (times k + s.params.tRetry))
      inbox := rest }

/-! ## Rules about the whole machine -/

/-- R24 (c), R26, R88: `latest_result` changes only in a completion, which sets the notifier and clears the counter and
the accumulator in the same event, or in the `CONFIGURE` that creates the record. -/
def Obligations.LatestResultWrittenOnlyByCompletions : Prop :=
  ∀ s s' : State, step s = .next s' → s.devExists = true → s'.latestResult ≠ s.latestResult →
    s.completesNext = true ∧ s'.pending = true ∧ s'.pulseIndex = 0 ∧ s'.shiftAccumulator = 0

/-- R24 (a), R12: the counter either keeps its value, advances by one, or becomes 0 at a frame
boundary: on completion, on (re)enable, or when `CONFIGURE` creates it. -/
def Obligations.CounterResetsOnlyAtFrameBoundaries : Prop :=
  ∀ (s s' : State) (e : Event) (rest : List Event), s.inbox = e :: rest → step s = .next s' →
    s'.pulseIndex = s.pulseIndex ∨
    (s'.pulseIndex = s.pulseIndex + 1 ∧ ∃ d t, e = .tick d t) ∨
    (s'.pulseIndex = 0 ∧
      (s.completesNext = true ∨ (∃ id p t, e = .query id true p t) ∨
        ∃ id a b g inv t, e = .configure id a b g inv t))

/-- R24 (h), R89, R90, R93, R118: the engine is disarmed only by a completion that finds it disabled. -/
def Obligations.EngineStopsOnlyAtDisabledCompletion : Prop :=
  ∀ s s' : State, s.devExists = true → s.armed = true → step s = .next s' →
    (s'.armed = false ↔ s.completesNext = true ∧ s.enabled = false)

/-- R118: the table of lifecycle conditions and the events that move between them. -/
def Obligations.LifecycleFollowsTheTable : Prop :=
  ∀ (s s' : State) (e : Event) (rest : List Event), s.Inv → s.inbox = e :: rest → step s = .next s' →
    match s.condition, e with
    | .absent, .configure _ _ _ _ _ _ => s'.condition = .configuredIdle
    | .absent, _ => False
    | .configuredIdle, .query _ true _ _ => s'.condition = .running
    | .configuredIdle, _ => s'.condition = .configuredIdle
    | .running, .query _ false _ _ => s'.condition = .draining
    | .running, _ => s'.condition = .running
    | .draining, .query _ true _ _ => s'.condition = .running
    | .draining, .tick _ _ =>
        s'.condition = if s.completesNext = true then .stopped else .draining
    | .draining, _ => s'.condition = .draining
    | .stopped, .query _ true _ _ => s'.condition = .running
    | .stopped, _ => s'.condition = .stopped

/-- R164: only a `QUERY` that enables leaves quiescence. -/
def Obligations.QuiescenceLeftOnlyByEnable : Prop :=
  ∀ (s s' : State) (e : Event) (rest : List Event), s.quiescent → s.inbox = e :: rest →
    step s = .next s' →
      s'.quiescent ∨ ∃ id p t, id % 2 ^ s.params.idWidth = s.id ∧ e = .query id true p t

/-- R125, R126: over any run, the reports emitted and the notification still pending are at most the frames completed
and the notification pending at the start: "at most one report per completed frame". -/
def Obligations.NoMoreReportsThanCompletedFrames : Prop :=
  ∀ (k : Nat) (s s' : State), Host.Core.run core k s = .next s' →
    s'.reports + (if s'.pending = true then 1 else 0) ≤
      s.reports + (if s.pending = true then 1 else 0) + completions k s

/-- R24 (i), R49, U6 ("none is reachable"): from every state that meets the invariants, a pass that finds the flag set
reports the value that `latest_result` has; the free value of log 5 is never reported. -/
def Obligations.ReportsCarryTheLatestResult : Prop :=
  ∀ (s s' : State) (t : Nat) (rest : List Event), s.Inv → s.inbox = .consume t :: rest → s.pending = true →
    step s = .next s' →
    ∃ (v : Word) (ts : Nat), s.latestResult = some v ∧ s'.latestResult = some v ∧
      s'.outbox = s.outbox ++ (match s.probeRef with
        | none => []
        | some p => [.probeSample p v ts]) ++ [.stateReport s.id ts v]

/-- R121, R126: "consumed exactly once per set": of two passes with no completion between them the second has no effect
but its time. -/
def Obligations.SecondConsumeIsIdle : Prop :=
  ∀ (s s1 s2 : State) (t u : Nat) (rest : List Event), s.inbox = .consume t :: .consume u :: rest →
    step s = .next s1 → step s1 = .next s2 → s2 = { s1 with lastTime := u, inbox := rest }

/-- R22, R157: an undriven data line is low. -/
def Obligations.UndrivenLineReadsLow : Prop :=
  ∀ (s : State) (t : Nat) (rest : List Event),
    step { s with inbox := .tick .undriven t :: rest } = step { s with inbox := .tick .low t :: rest }

/-- R94, R161: the data values, the edges on `clock_line` and the reports' values are the same for all delays and for
any lateness: two states that agree up to times, and one operation at two times, end in states that agree up to
times. -/
def Obligations.DataIndependentOfTiming : Prop :=
  ∀ (i : Instr) (t u : Nat) (a b a' b' : State), a.untimed = b.untimed →
    exec (i.withTime t) a = .next a' → exec (i.withTime u) b = .next b' → a'.untimed = b'.untimed
end

