-- ==== Sys2Proof/Laws/State.lean ====
section
/-! SUPPORT. One lemma per field per primitive update of the state, so that no later proof unfolds a record update;
and the composite operations as compositions of the primitives. -/

namespace Sys2Proof.Machine

section
variable (t : Nat) (s : State)

@[simp] theorem State.seen_params : (s.seen t).params = s.params := rfl
@[simp] theorem State.seen_devExists : (s.seen t).devExists = s.devExists := rfl
@[simp] theorem State.seen_id : (s.seen t).id = s.id := rfl
@[simp] theorem State.seen_gainCode : (s.seen t).gainCode = s.gainCode := rfl
@[simp] theorem State.seen_invert : (s.seen t).invert = s.invert := rfl
@[simp] theorem State.seen_pulseIndex : (s.seen t).pulseIndex = s.pulseIndex := rfl
@[simp] theorem State.seen_shiftAccumulator : (s.seen t).shiftAccumulator = s.shiftAccumulator := rfl
@[simp] theorem State.seen_latestResult : (s.seen t).latestResult = s.latestResult := rfl
@[simp] theorem State.seen_nextWakeTime : (s.seen t).nextWakeTime = s.nextWakeTime := rfl
@[simp] theorem State.seen_enabled : (s.seen t).enabled = s.enabled := rfl
@[simp] theorem State.seen_pending : (s.seen t).pending = s.pending := rfl
@[simp] theorem State.seen_armed : (s.seen t).armed = s.armed := rfl
@[simp] theorem State.seen_probeRef : (s.seen t).probeRef = s.probeRef := rfl
@[simp] theorem State.seen_clockLine : (s.seen t).clockLine = s.clockLine := rfl
@[simp] theorem State.seen_dataPin : (s.seen t).dataPin = s.dataPin := rfl
@[simp] theorem State.seen_clockPin : (s.seen t).clockPin = s.clockPin := rfl
@[simp] theorem State.seen_dataLineMode : (s.seen t).dataLineMode = s.dataLineMode := rfl
@[simp] theorem State.seen_clockLineMode : (s.seen t).clockLineMode = s.clockLineMode := rfl
@[simp] theorem State.seen_lastTime : (s.seen t).lastTime = t := rfl
@[simp] theorem State.seen_inbox : (s.seen t).inbox = s.inbox := rfl
@[simp] theorem State.seen_outbox : (s.seen t).outbox = s.outbox := rfl
@[simp] theorem State.seen_draws : (s.seen t).draws = s.draws := rfl

end

section
variable (o : Output) (s : State)

@[simp] theorem State.emit_params : (s.emit o).params = s.params := rfl
@[simp] theorem State.emit_devExists : (s.emit o).devExists = s.devExists := rfl
@[simp] theorem State.emit_id : (s.emit o).id = s.id := rfl
@[simp] theorem State.emit_gainCode : (s.emit o).gainCode = s.gainCode := rfl
@[simp] theorem State.emit_invert : (s.emit o).invert = s.invert := rfl
@[simp] theorem State.emit_pulseIndex : (s.emit o).pulseIndex = s.pulseIndex := rfl
@[simp] theorem State.emit_shiftAccumulator : (s.emit o).shiftAccumulator = s.shiftAccumulator := rfl
@[simp] theorem State.emit_latestResult : (s.emit o).latestResult = s.latestResult := rfl
@[simp] theorem State.emit_nextWakeTime : (s.emit o).nextWakeTime = s.nextWakeTime := rfl
@[simp] theorem State.emit_enabled : (s.emit o).enabled = s.enabled := rfl
@[simp] theorem State.emit_pending : (s.emit o).pending = s.pending := rfl
@[simp] theorem State.emit_armed : (s.emit o).armed = s.armed := rfl
@[simp] theorem State.emit_probeRef : (s.emit o).probeRef = s.probeRef := rfl
@[simp] theorem State.emit_clockLine : (s.emit o).clockLine = s.clockLine := rfl
@[simp] theorem State.emit_dataPin : (s.emit o).dataPin = s.dataPin := rfl
@[simp] theorem State.emit_clockPin : (s.emit o).clockPin = s.clockPin := rfl
@[simp] theorem State.emit_dataLineMode : (s.emit o).dataLineMode = s.dataLineMode := rfl
@[simp] theorem State.emit_clockLineMode : (s.emit o).clockLineMode = s.clockLineMode := rfl
@[simp] theorem State.emit_lastTime : (s.emit o).lastTime = s.lastTime := rfl
@[simp] theorem State.emit_inbox : (s.emit o).inbox = s.inbox := rfl
@[simp] theorem State.emit_outbox : (s.emit o).outbox = s.outbox ++ [o] := rfl
@[simp] theorem State.emit_draws : (s.emit o).draws = s.draws := rfl

end

section
variable (b : Level) (s : State)

@[simp] theorem State.portWrite_params : (s.portWrite b).params = s.params := rfl
@[simp] theorem State.portWrite_devExists : (s.portWrite b).devExists = s.devExists := rfl
@[simp] theorem State.portWrite_id : (s.portWrite b).id = s.id := rfl
@[simp] theorem State.portWrite_gainCode : (s.portWrite b).gainCode = s.gainCode := rfl
@[simp] theorem State.portWrite_invert : (s.portWrite b).invert = s.invert := rfl
@[simp] theorem State.portWrite_pulseIndex : (s.portWrite b).pulseIndex = s.pulseIndex := rfl
@[simp] theorem State.portWrite_shiftAccumulator : (s.portWrite b).shiftAccumulator = s.shiftAccumulator := rfl
@[simp] theorem State.portWrite_latestResult : (s.portWrite b).latestResult = s.latestResult := rfl
@[simp] theorem State.portWrite_nextWakeTime : (s.portWrite b).nextWakeTime = s.nextWakeTime := rfl
@[simp] theorem State.portWrite_enabled : (s.portWrite b).enabled = s.enabled := rfl
@[simp] theorem State.portWrite_pending : (s.portWrite b).pending = s.pending := rfl
@[simp] theorem State.portWrite_armed : (s.portWrite b).armed = s.armed := rfl
@[simp] theorem State.portWrite_probeRef : (s.portWrite b).probeRef = s.probeRef := rfl
@[simp] theorem State.portWrite_clockLine : (s.portWrite b).clockLine = b := rfl
@[simp] theorem State.portWrite_dataPin : (s.portWrite b).dataPin = s.dataPin := rfl
@[simp] theorem State.portWrite_clockPin : (s.portWrite b).clockPin = s.clockPin := rfl
@[simp] theorem State.portWrite_dataLineMode : (s.portWrite b).dataLineMode = s.dataLineMode := rfl
@[simp] theorem State.portWrite_clockLineMode : (s.portWrite b).clockLineMode = s.clockLineMode := rfl
@[simp] theorem State.portWrite_lastTime : (s.portWrite b).lastTime = s.lastTime := rfl
@[simp] theorem State.portWrite_inbox : (s.portWrite b).inbox = s.inbox := rfl
@[simp] theorem State.portWrite_outbox : (s.portWrite b).outbox = s.outbox := rfl
@[simp] theorem State.portWrite_draws : (s.portWrite b).draws = s.draws := rfl

end

section
variable (due : Nat) (s : State)

@[simp] theorem State.schedule_params : (s.schedule due).params = s.params := rfl
@[simp] theorem State.schedule_devExists : (s.schedule due).devExists = s.devExists := rfl
@[simp] theorem State.schedule_id : (s.schedule due).id = s.id := rfl
@[simp] theorem State.schedule_gainCode : (s.schedule due).gainCode = s.gainCode := rfl
@[simp] theorem State.schedule_invert : (s.schedule due).invert = s.invert := rfl
@[simp] theorem State.schedule_pulseIndex : (s.schedule due).pulseIndex = s.pulseIndex := rfl
@[simp] theorem State.schedule_shiftAccumulator : (s.schedule due).shiftAccumulator = s.shiftAccumulator := rfl
@[simp] theorem State.schedule_latestResult : (s.schedule due).latestResult = s.latestResult := rfl
@[simp] theorem State.schedule_nextWakeTime : (s.schedule due).nextWakeTime = some due := rfl
@[simp] theorem State.schedule_enabled : (s.schedule due).enabled = s.enabled := rfl
@[simp] theorem State.schedule_pending : (s.schedule due).pending = s.pending := rfl
@[simp] theorem State.schedule_armed : (s.schedule due).armed = true := rfl
@[simp] theorem State.schedule_probeRef : (s.schedule due).probeRef = s.probeRef := rfl
@[simp] theorem State.schedule_clockLine : (s.schedule due).clockLine = s.clockLine := rfl
@[simp] theorem State.schedule_dataPin : (s.schedule due).dataPin = s.dataPin := rfl
@[simp] theorem State.schedule_clockPin : (s.schedule due).clockPin = s.clockPin := rfl
@[simp] theorem State.schedule_dataLineMode : (s.schedule due).dataLineMode = s.dataLineMode := rfl
@[simp] theorem State.schedule_clockLineMode : (s.schedule due).clockLineMode = s.clockLineMode := rfl
@[simp] theorem State.schedule_lastTime : (s.schedule due).lastTime = s.lastTime := rfl
@[simp] theorem State.schedule_inbox : (s.schedule due).inbox = s.inbox := rfl
@[simp] theorem State.schedule_outbox : (s.schedule due).outbox = s.outbox := rfl
@[simp] theorem State.schedule_draws : (s.schedule due).draws = s.draws := rfl

end

section
variable (s : State)

@[simp] theorem State.cancel_params : (s.cancel).params = s.params := rfl
@[simp] theorem State.cancel_devExists : (s.cancel).devExists = s.devExists := rfl
@[simp] theorem State.cancel_id : (s.cancel).id = s.id := rfl
@[simp] theorem State.cancel_gainCode : (s.cancel).gainCode = s.gainCode := rfl
@[simp] theorem State.cancel_invert : (s.cancel).invert = s.invert := rfl
@[simp] theorem State.cancel_pulseIndex : (s.cancel).pulseIndex = s.pulseIndex := rfl
@[simp] theorem State.cancel_shiftAccumulator : (s.cancel).shiftAccumulator = s.shiftAccumulator := rfl
@[simp] theorem State.cancel_latestResult : (s.cancel).latestResult = s.latestResult := rfl
@[simp] theorem State.cancel_nextWakeTime : (s.cancel).nextWakeTime = s.nextWakeTime := rfl
@[simp] theorem State.cancel_enabled : (s.cancel).enabled = s.enabled := rfl
@[simp] theorem State.cancel_pending : (s.cancel).pending = s.pending := rfl
@[simp] theorem State.cancel_armed : (s.cancel).armed = false := rfl
@[simp] theorem State.cancel_probeRef : (s.cancel).probeRef = s.probeRef := rfl
@[simp] theorem State.cancel_clockLine : (s.cancel).clockLine = s.clockLine := rfl
@[simp] theorem State.cancel_dataPin : (s.cancel).dataPin = s.dataPin := rfl
@[simp] theorem State.cancel_clockPin : (s.cancel).clockPin = s.clockPin := rfl
@[simp] theorem State.cancel_dataLineMode : (s.cancel).dataLineMode = s.dataLineMode := rfl
@[simp] theorem State.cancel_clockLineMode : (s.cancel).clockLineMode = s.clockLineMode := rfl
@[simp] theorem State.cancel_lastTime : (s.cancel).lastTime = s.lastTime := rfl
@[simp] theorem State.cancel_inbox : (s.cancel).inbox = s.inbox := rfl
@[simp] theorem State.cancel_outbox : (s.cancel).outbox = s.outbox := rfl
@[simp] theorem State.cancel_draws : (s.cancel).draws = s.draws := rfl

end

section
variable (s : State)

@[simp] theorem State.wake_params : (s.wake).params = s.params := rfl
@[simp] theorem State.wake_devExists : (s.wake).devExists = s.devExists := rfl
@[simp] theorem State.wake_id : (s.wake).id = s.id := rfl
@[simp] theorem State.wake_gainCode : (s.wake).gainCode = s.gainCode := rfl
@[simp] theorem State.wake_invert : (s.wake).invert = s.invert := rfl
@[simp] theorem State.wake_pulseIndex : (s.wake).pulseIndex = s.pulseIndex := rfl
@[simp] theorem State.wake_shiftAccumulator : (s.wake).shiftAccumulator = s.shiftAccumulator := rfl
@[simp] theorem State.wake_latestResult : (s.wake).latestResult = s.latestResult := rfl
@[simp] theorem State.wake_nextWakeTime : (s.wake).nextWakeTime = s.nextWakeTime := rfl
@[simp] theorem State.wake_enabled : (s.wake).enabled = s.enabled := rfl
@[simp] theorem State.wake_pending : (s.wake).pending = true := rfl
@[simp] theorem State.wake_armed : (s.wake).armed = s.armed := rfl
@[simp] theorem State.wake_probeRef : (s.wake).probeRef = s.probeRef := rfl
@[simp] theorem State.wake_clockLine : (s.wake).clockLine = s.clockLine := rfl
@[simp] theorem State.wake_dataPin : (s.wake).dataPin = s.dataPin := rfl
@[simp] theorem State.wake_clockPin : (s.wake).clockPin = s.clockPin := rfl
@[simp] theorem State.wake_dataLineMode : (s.wake).dataLineMode = s.dataLineMode := rfl
@[simp] theorem State.wake_clockLineMode : (s.wake).clockLineMode = s.clockLineMode := rfl
@[simp] theorem State.wake_lastTime : (s.wake).lastTime = s.lastTime := rfl
@[simp] theorem State.wake_inbox : (s.wake).inbox = s.inbox := rfl
@[simp] theorem State.wake_outbox : (s.wake).outbox = s.outbox := rfl
@[simp] theorem State.wake_draws : (s.wake).draws = s.draws := rfl

end

section
variable (s : State)

@[simp] theorem State.clearPending_params : (s.clearPending).params = s.params := rfl
@[simp] theorem State.clearPending_devExists : (s.clearPending).devExists = s.devExists := rfl
@[simp] theorem State.clearPending_id : (s.clearPending).id = s.id := rfl
@[simp] theorem State.clearPending_gainCode : (s.clearPending).gainCode = s.gainCode := rfl
@[simp] theorem State.clearPending_invert : (s.clearPending).invert = s.invert := rfl
@[simp] theorem State.clearPending_pulseIndex : (s.clearPending).pulseIndex = s.pulseIndex := rfl
@[simp] theorem State.clearPending_shiftAccumulator : (s.clearPending).shiftAccumulator = s.shiftAccumulator := rfl
@[simp] theorem State.clearPending_latestResult : (s.clearPending).latestResult = s.latestResult := rfl
@[simp] theorem State.clearPending_nextWakeTime : (s.clearPending).nextWakeTime = s.nextWakeTime := rfl
@[simp] theorem State.clearPending_enabled : (s.clearPending).enabled = s.enabled := rfl
@[simp] theorem State.clearPending_pending : (s.clearPending).pending = false := rfl
@[simp] theorem State.clearPending_armed : (s.clearPending).armed = s.armed := rfl
@[simp] theorem State.clearPending_probeRef : (s.clearPending).probeRef = s.probeRef := rfl
@[simp] theorem State.clearPending_clockLine : (s.clearPending).clockLine = s.clockLine := rfl
@[simp] theorem State.clearPending_dataPin : (s.clearPending).dataPin = s.dataPin := rfl
@[simp] theorem State.clearPending_clockPin : (s.clearPending).clockPin = s.clockPin := rfl
@[simp] theorem State.clearPending_dataLineMode : (s.clearPending).dataLineMode = s.dataLineMode := rfl
@[simp] theorem State.clearPending_clockLineMode : (s.clearPending).clockLineMode = s.clockLineMode := rfl
@[simp] theorem State.clearPending_lastTime : (s.clearPending).lastTime = s.lastTime := rfl
@[simp] theorem State.clearPending_inbox : (s.clearPending).inbox = s.inbox := rfl
@[simp] theorem State.clearPending_outbox : (s.clearPending).outbox = s.outbox := rfl
@[simp] theorem State.clearPending_draws : (s.clearPending).draws = s.draws := rfl

end

section
variable (n : Nat) (s : State)

@[simp] theorem State.setPulseIndex_params : (s.setPulseIndex n).params = s.params := rfl
@[simp] theorem State.setPulseIndex_devExists : (s.setPulseIndex n).devExists = s.devExists := rfl
@[simp] theorem State.setPulseIndex_id : (s.setPulseIndex n).id = s.id := rfl
@[simp] theorem State.setPulseIndex_gainCode : (s.setPulseIndex n).gainCode = s.gainCode := rfl
@[simp] theorem State.setPulseIndex_invert : (s.setPulseIndex n).invert = s.invert := rfl
@[simp] theorem State.setPulseIndex_pulseIndex : (s.setPulseIndex n).pulseIndex = n := rfl
@[simp] theorem State.setPulseIndex_shiftAccumulator : (s.setPulseIndex n).shiftAccumulator = s.shiftAccumulator := rfl
@[simp] theorem State.setPulseIndex_latestResult : (s.setPulseIndex n).latestResult = s.latestResult := rfl
@[simp] theorem State.setPulseIndex_nextWakeTime : (s.setPulseIndex n).nextWakeTime = s.nextWakeTime := rfl
@[simp] theorem State.setPulseIndex_enabled : (s.setPulseIndex n).enabled = s.enabled := rfl
@[simp] theorem State.setPulseIndex_pending : (s.setPulseIndex n).pending = s.pending := rfl
@[simp] theorem State.setPulseIndex_armed : (s.setPulseIndex n).armed = s.armed := rfl
@[simp] theorem State.setPulseIndex_probeRef : (s.setPulseIndex n).probeRef = s.probeRef := rfl
@[simp] theorem State.setPulseIndex_clockLine : (s.setPulseIndex n).clockLine = s.clockLine := rfl
@[simp] theorem State.setPulseIndex_dataPin : (s.setPulseIndex n).dataPin = s.dataPin := rfl
@[simp] theorem State.setPulseIndex_clockPin : (s.setPulseIndex n).clockPin = s.clockPin := rfl
@[simp] theorem State.setPulseIndex_dataLineMode : (s.setPulseIndex n).dataLineMode = s.dataLineMode := rfl
@[simp] theorem State.setPulseIndex_clockLineMode : (s.setPulseIndex n).clockLineMode = s.clockLineMode := rfl
@[simp] theorem State.setPulseIndex_lastTime : (s.setPulseIndex n).lastTime = s.lastTime := rfl
@[simp] theorem State.setPulseIndex_inbox : (s.setPulseIndex n).inbox = s.inbox := rfl
@[simp] theorem State.setPulseIndex_outbox : (s.setPulseIndex n).outbox = s.outbox := rfl
@[simp] theorem State.setPulseIndex_draws : (s.setPulseIndex n).draws = s.draws := rfl

end

section
variable (w : Word) (s : State)

@[simp] theorem State.setAccumulator_params : (s.setAccumulator w).params = s.params := rfl
@[simp] theorem State.setAccumulator_devExists : (s.setAccumulator w).devExists = s.devExists := rfl
@[simp] theorem State.setAccumulator_id : (s.setAccumulator w).id = s.id := rfl
@[simp] theorem State.setAccumulator_gainCode : (s.setAccumulator w).gainCode = s.gainCode := rfl
@[simp] theorem State.setAccumulator_invert : (s.setAccumulator w).invert = s.invert := rfl
@[simp] theorem State.setAccumulator_pulseIndex : (s.setAccumulator w).pulseIndex = s.pulseIndex := rfl
@[simp] theorem State.setAccumulator_shiftAccumulator : (s.setAccumulator w).shiftAccumulator = w := rfl
@[simp] theorem State.setAccumulator_latestResult : (s.setAccumulator w).latestResult = s.latestResult := rfl
@[simp] theorem State.setAccumulator_nextWakeTime : (s.setAccumulator w).nextWakeTime = s.nextWakeTime := rfl
@[simp] theorem State.setAccumulator_enabled : (s.setAccumulator w).enabled = s.enabled := rfl
@[simp] theorem State.setAccumulator_pending : (s.setAccumulator w).pending = s.pending := rfl
@[simp] theorem State.setAccumulator_armed : (s.setAccumulator w).armed = s.armed := rfl
@[simp] theorem State.setAccumulator_probeRef : (s.setAccumulator w).probeRef = s.probeRef := rfl
@[simp] theorem State.setAccumulator_clockLine : (s.setAccumulator w).clockLine = s.clockLine := rfl
@[simp] theorem State.setAccumulator_dataPin : (s.setAccumulator w).dataPin = s.dataPin := rfl
@[simp] theorem State.setAccumulator_clockPin : (s.setAccumulator w).clockPin = s.clockPin := rfl
@[simp] theorem State.setAccumulator_dataLineMode : (s.setAccumulator w).dataLineMode = s.dataLineMode := rfl
@[simp] theorem State.setAccumulator_clockLineMode : (s.setAccumulator w).clockLineMode = s.clockLineMode := rfl
@[simp] theorem State.setAccumulator_lastTime : (s.setAccumulator w).lastTime = s.lastTime := rfl
@[simp] theorem State.setAccumulator_inbox : (s.setAccumulator w).inbox = s.inbox := rfl
@[simp] theorem State.setAccumulator_outbox : (s.setAccumulator w).outbox = s.outbox := rfl
@[simp] theorem State.setAccumulator_draws : (s.setAccumulator w).draws = s.draws := rfl

end

section
variable (w : Word) (s : State)

@[simp] theorem State.setResult_params : (s.setResult w).params = s.params := rfl
@[simp] theorem State.setResult_devExists : (s.setResult w).devExists = s.devExists := rfl
@[simp] theorem State.setResult_id : (s.setResult w).id = s.id := rfl
@[simp] theorem State.setResult_gainCode : (s.setResult w).gainCode = s.gainCode := rfl
@[simp] theorem State.setResult_invert : (s.setResult w).invert = s.invert := rfl
@[simp] theorem State.setResult_pulseIndex : (s.setResult w).pulseIndex = s.pulseIndex := rfl
@[simp] theorem State.setResult_shiftAccumulator : (s.setResult w).shiftAccumulator = s.shiftAccumulator := rfl
@[simp] theorem State.setResult_latestResult : (s.setResult w).latestResult = some w := rfl
@[simp] theorem State.setResult_nextWakeTime : (s.setResult w).nextWakeTime = s.nextWakeTime := rfl
@[simp] theorem State.setResult_enabled : (s.setResult w).enabled = s.enabled := rfl
@[simp] theorem State.setResult_pending : (s.setResult w).pending = s.pending := rfl
@[simp] theorem State.setResult_armed : (s.setResult w).armed = s.armed := rfl
@[simp] theorem State.setResult_probeRef : (s.setResult w).probeRef = s.probeRef := rfl
@[simp] theorem State.setResult_clockLine : (s.setResult w).clockLine = s.clockLine := rfl
@[simp] theorem State.setResult_dataPin : (s.setResult w).dataPin = s.dataPin := rfl
@[simp] theorem State.setResult_clockPin : (s.setResult w).clockPin = s.clockPin := rfl
@[simp] theorem State.setResult_dataLineMode : (s.setResult w).dataLineMode = s.dataLineMode := rfl
@[simp] theorem State.setResult_clockLineMode : (s.setResult w).clockLineMode = s.clockLineMode := rfl
@[simp] theorem State.setResult_lastTime : (s.setResult w).lastTime = s.lastTime := rfl
@[simp] theorem State.setResult_inbox : (s.setResult w).inbox = s.inbox := rfl
@[simp] theorem State.setResult_outbox : (s.setResult w).outbox = s.outbox := rfl
@[simp] theorem State.setResult_draws : (s.setResult w).draws = s.draws := rfl

end

section
variable (e : Bool) (p : Option Nat) (s : State)

@[simp] theorem State.setRequest_params : (s.setRequest e p).params = s.params := rfl
@[simp] theorem State.setRequest_devExists : (s.setRequest e p).devExists = s.devExists := rfl
@[simp] theorem State.setRequest_id : (s.setRequest e p).id = s.id := rfl
@[simp] theorem State.setRequest_gainCode : (s.setRequest e p).gainCode = s.gainCode := rfl
@[simp] theorem State.setRequest_invert : (s.setRequest e p).invert = s.invert := rfl
@[simp] theorem State.setRequest_pulseIndex : (s.setRequest e p).pulseIndex = s.pulseIndex := rfl
@[simp] theorem State.setRequest_shiftAccumulator : (s.setRequest e p).shiftAccumulator = s.shiftAccumulator := rfl
@[simp] theorem State.setRequest_latestResult : (s.setRequest e p).latestResult = s.latestResult := rfl
@[simp] theorem State.setRequest_nextWakeTime : (s.setRequest e p).nextWakeTime = s.nextWakeTime := rfl
@[simp] theorem State.setRequest_enabled : (s.setRequest e p).enabled = e := rfl
@[simp] theorem State.setRequest_pending : (s.setRequest e p).pending = s.pending := rfl
@[simp] theorem State.setRequest_armed : (s.setRequest e p).armed = s.armed := rfl
@[simp] theorem State.setRequest_probeRef : (s.setRequest e p).probeRef = p.map (identifier s.params) := rfl
@[simp] theorem State.setRequest_clockLine : (s.setRequest e p).clockLine = s.clockLine := rfl
@[simp] theorem State.setRequest_dataPin : (s.setRequest e p).dataPin = s.dataPin := rfl
@[simp] theorem State.setRequest_clockPin : (s.setRequest e p).clockPin = s.clockPin := rfl
@[simp] theorem State.setRequest_dataLineMode : (s.setRequest e p).dataLineMode = s.dataLineMode := rfl
@[simp] theorem State.setRequest_clockLineMode : (s.setRequest e p).clockLineMode = s.clockLineMode := rfl
@[simp] theorem State.setRequest_lastTime : (s.setRequest e p).lastTime = s.lastTime := rfl
@[simp] theorem State.setRequest_inbox : (s.setRequest e p).inbox = s.inbox := rfl
@[simp] theorem State.setRequest_outbox : (s.setRequest e p).outbox = s.outbox := rfl
@[simp] theorem State.setRequest_draws : (s.setRequest e p).draws = s.draws := rfl

end

section
variable (s : State)

@[simp] theorem State.tookTimestamp_params : (s.tookTimestamp).params = s.params := rfl
@[simp] theorem State.tookTimestamp_devExists : (s.tookTimestamp).devExists = s.devExists := rfl
@[simp] theorem State.tookTimestamp_id : (s.tookTimestamp).id = s.id := rfl
@[simp] theorem State.tookTimestamp_gainCode : (s.tookTimestamp).gainCode = s.gainCode := rfl
@[simp] theorem State.tookTimestamp_invert : (s.tookTimestamp).invert = s.invert := rfl
@[simp] theorem State.tookTimestamp_pulseIndex : (s.tookTimestamp).pulseIndex = s.pulseIndex := rfl
@[simp] theorem State.tookTimestamp_shiftAccumulator : (s.tookTimestamp).shiftAccumulator = s.shiftAccumulator := rfl
@[simp] theorem State.tookTimestamp_latestResult : (s.tookTimestamp).latestResult = s.latestResult := rfl
@[simp] theorem State.tookTimestamp_nextWakeTime : (s.tookTimestamp).nextWakeTime = s.nextWakeTime := rfl
@[simp] theorem State.tookTimestamp_enabled : (s.tookTimestamp).enabled = s.enabled := rfl
@[simp] theorem State.tookTimestamp_pending : (s.tookTimestamp).pending = s.pending := rfl
@[simp] theorem State.tookTimestamp_armed : (s.tookTimestamp).armed = s.armed := rfl
@[simp] theorem State.tookTimestamp_probeRef : (s.tookTimestamp).probeRef = s.probeRef := rfl
@[simp] theorem State.tookTimestamp_clockLine : (s.tookTimestamp).clockLine = s.clockLine := rfl
@[simp] theorem State.tookTimestamp_dataPin : (s.tookTimestamp).dataPin = s.dataPin := rfl
@[simp] theorem State.tookTimestamp_clockPin : (s.tookTimestamp).clockPin = s.clockPin := rfl
@[simp] theorem State.tookTimestamp_dataLineMode : (s.tookTimestamp).dataLineMode = s.dataLineMode := rfl
@[simp] theorem State.tookTimestamp_clockLineMode : (s.tookTimestamp).clockLineMode = s.clockLineMode := rfl
@[simp] theorem State.tookTimestamp_lastTime : (s.tookTimestamp).lastTime = s.lastTime := rfl
@[simp] theorem State.tookTimestamp_inbox : (s.tookTimestamp).inbox = s.inbox := rfl
@[simp] theorem State.tookTimestamp_outbox : (s.tookTimestamp).outbox = s.outbox := rfl
@[simp] theorem State.tookTimestamp_draws : (s.tookTimestamp).draws = s.draws + 1 := rfl

end

section
variable (s : State)

@[simp] theorem State.reschedule_eq (due : Nat) :
    s.reschedule due = (s.schedule due).emit (.reschedule due) := rfl

@[simp] theorem State.stop_eq : s.stop = s.cancel.emit .stop := rfl

@[simp] theorem State.capture_eq (d : Level) :
    s.capture d = s.setAccumulator (captureInto s.shiftAccumulator s.pulseIndex d) := rfl

@[simp] theorem State.halfCycle_eq (b : Level) :
    s.halfCycle b = (s.portWrite b).setPulseIndex (s.pulseIndex + 1) := rfl

@[simp] theorem State.complete_eq :
    s.complete =
      (((s.setResult (assemble s.shiftAccumulator s.invert)).wake).setPulseIndex 0).setAccumulator 0 := rfl

@[simp] theorem State.arm_eq (t : Nat) :
    s.arm t =
      ((((s.cancel.setPulseIndex 0).setAccumulator 0).portWrite false).schedule (t + s.params.tRetry)) := rfl

@[simp] theorem State.report_eq (ts : Nat) (v : Word) : s.report ts v = s.emit (.stateReport s.id ts v) := rfl

end

end Sys2Proof.Machine
end

