-- ==== Sys2Proof/Laws/Ops.lean ====
section
/-! SUPPORT. What each shared operation of `Machine/Ops.lean` can do, said once. -/

namespace Sys2Proof.Machine

/-! ### `admitted` -/

theorem admitted_next_iff {r : Option Refusal} {a : Answer} {s' : State} :
    admitted r a = .next s' ↔ r = none ∧ a = .next s' := by
  cases r <;> simp [admitted]

theorem admitted_fault_iff {r : Option Refusal} {a : Answer} {f : Fault} :
    admitted r a = .fault f ↔ r = none ∧ a = .fault f := by
  cases r <;> simp [admitted]

theorem admitted_refused_iff {r : Option Refusal} {a : Answer} {x : Refusal} :
    admitted r a = .refused x ↔ r = some x ∨ r = none ∧ a = .refused x := by
  cases r <;> simp [admitted]

/-! ### Identifiers -/

theorem identifier_lt (p : Params) (n : Nat) : identifier p n < 2 ^ p.idWidth :=
  Nat.mod_lt _ (Nat.two_pow_pos _)

theorem lt_of_map_identifier {p : Params} {probe : Option Nat} {n : Nat}
    (h : probe.map (identifier p) = some n) : n < 2 ^ p.idWidth := by
  obtain ⟨m, -, rfl⟩ := Option.map_eq_some_iff.mp h
  exact identifier_lt p m

theorem identifier_of_lt {p : Params} {n : Nat} (h : n < 2 ^ p.idWidth) : identifier p n = n :=
  Nat.mod_eq_of_lt h

/-- Only `ID_W` of the parameters decides what an identifier field reads as. -/
theorem identifier_congr {p q : Params} (h : p.idWidth = q.idWidth) : identifier p = identifier q := by
  funext n
  unfold identifier
  rw [h]

/-! ### Admission -/

theorem due_iff {t : Nat} {s : State} : s.due t = true ↔ ∃ n, s.nextWakeTime = some n ∧ n ≤ t := by
  unfold State.due
  cases s.nextWakeTime <;> simp

theorem timeRefusal_none_iff {t : Nat} {s : State} : timeRefusal t s = none ↔ s.lastTime ≤ t := by
  unfold timeRefusal
  split <;> simp <;> omega

theorem timeRefusal_some_iff {t : Nat} {s : State} {r : Refusal} :
    timeRefusal t s = some r ↔ r = .time ∧ t < s.lastTime := by
  unfold timeRefusal
  split <;> simp [eq_comm, *]

theorem tickRefusal_none_iff {t : Nat} {s : State} : tickRefusal t s = none ↔ s.tickAdmits t := by
  unfold tickRefusal State.tickAdmits
  rw [← due_iff, ← timeRefusal_none_iff]
  cases s.devExists <;> cases s.armed <;> cases s.due t <;> simp

theorem queryRefusal_none_iff {id : Nat} {t : Nat} {s : State} :
    queryRefusal id t s = none ↔ s.queryAdmits id t := by
  unfold queryRefusal State.queryAdmits
  rw [← timeRefusal_none_iff]
  rw [← identifier]
  by_cases h : identifier s.params id = s.id <;> cases s.devExists <;> simp [h]

theorem consumeRefusal_none_iff {t : Nat} {s : State} :
    consumeRefusal t s = none ↔ s.consumeAdmits t := by
  unfold consumeRefusal State.consumeAdmits
  rw [← timeRefusal_none_iff]
  cases s.devExists <;> simp

theorem configureRefusal_none_iff {dataPin clockPin : Nat} {g : Nat} {inv : Int} {t : Nat} {s : State} :
    configureRefusal dataPin clockPin g inv t s = none ↔ s.configureAdmits dataPin clockPin g inv t := by
  unfold configureRefusal State.configureAdmits
  rw [← timeRefusal_none_iff]
  rw [← Bool.not_eq_true]
  split_ifs <;> tauto

/-! ### Reports -/

@[simp] theorem reportedResult_of_some {s : State} {v : Word} (h : s.latestResult = some v) :
    s.reportedResult = v := by
  simp [State.reportedResult, h]

/-- D12: with `TS = next_wake_time` a value of that register is the timestamp. -/
theorem timestamp_of_nextWakeTime {s : State} {n : Nat}
    (hp : s.params.timestampSource = .nextWakeTime) (hn : s.nextWakeTime = some n) : s.timestamp = n := by
  simp [State.timestamp, hp, hn]

@[simp] theorem sample_of_probe {s : State} {p : Nat} (ts : Nat) (v : Word) (h : s.probeRef = some p) :
    s.sample ts v = s.emit (.probeSample p v ts) := by
  simp [State.sample, h]

@[simp] theorem sample_of_none {s : State} (ts : Nat) (v : Word) (h : s.probeRef = none) :
    s.sample ts v = s := by
  simp [State.sample, h]

/-! ### The multiplier -/

@[simp] theorem Invert.ofInt_one : Invert.ofInt 1 = .plus := rfl

@[simp] theorem Invert.ofInt_neg_one : Invert.ofInt (-1) = .minus := rfl

end Sys2Proof.Machine
end

