-- ==== Sys2Proof/Laws/PerInstr.lean ====
section
/-! SUPPORT. A law per operation: the decoder reads each operation back from the word the encoder writes. -/

namespace Sys2Proof.Laws.RoundTrip

/-- Decoding the encoded operation gives it back, with every operand. -/
def Statement (i : Instr) : Prop := decode (encode i) = .ok i

theorem nrdy (t : Nat) : Statement (.nrdy t) := rfl

theorem start (t : Nat) : Statement (.start t) := rfl

theorem rise (t : Nat) : Statement (.rise t) := rfl

theorem fallc (d : Level) (t : Nat) : Statement (.fallc d t) := by cases d <;> rfl

theorem fallx (t : Nat) : Statement (.fallx t) := rfl

theorem fallcEndr (d : Level) (t : Nat) : Statement (.fallcEndr d t) := by cases d <;> rfl

theorem fallcEnds (d : Level) (t : Nat) : Statement (.fallcEnds d t) := by cases d <;> rfl

theorem fallxEndr (t : Nat) : Statement (.fallxEndr t) := rfl

theorem fallxEnds (t : Nat) : Statement (.fallxEnds t) := rfl

theorem configure (id : Nat) (dataPin clockPin : Nat) (gainCode : Nat) (invert : Int) (t : Nat) :
    Statement (.configure id dataPin clockPin gainCode invert t) := rfl

theorem queryArm (id : Nat) (probe : Option Nat) (t : Nat) : Statement (.queryArm id probe t) := rfl

theorem queryHold (id : Nat) (probe : Option Nat) (t : Nat) : Statement (.queryHold id probe t) := rfl

theorem queryDis (id : Nat) (probe : Option Nat) (t : Nat) : Statement (.queryDis id probe t) := rfl

theorem consumeIdle (t : Nat) : Statement (.consumeIdle t) := rfl

theorem consumeRpt (t : Nat) : Statement (.consumeRpt t) := rfl

theorem consumePrb (t : Nat) : Statement (.consumePrb t) := rfl

end Sys2Proof.Laws.RoundTrip
end

