-- ==== Sys2Proof/Tests/Slice0.lean ====
section
/-! SUPPORT. The model's own tests. Expected results are those of `95_test_vectors.md` (tables V-A to V-F, which the spec
derives from its rules) or are read off the rule named; then one witness for each statement that has hypotheses. -/

namespace Sys2Proof.Tests
open Sys2Proof Sys2Proof.Machine

/-! ### Small states -/

/-- After `CONFIGURE id=3 data_pin=1 clock_pin=2 gain=1 invert=+1` (R110's example). -/
def created : State :=
  { State.reset with
    devExists := true, id := 3, gainCode := 1, clockLine := true, dataPin := 1, clockPin := 2,
    dataLineMode := .inputPullDown, clockLineMode := .output }

/-- An armed engine with `NWT = 400`. -/
def engine (pi g : Nat) (sa : Word) (en : Bool) : State :=
  { created with
    armed := true, enabled := en, nextWakeTime := some 400, pulseIndex := pi, gainCode := g,
    shiftAccumulator := sa, clockLine := pi % 2 == 1 }

/-- A stopped engine with a result to report. -/
def reporting (probe : Option Nat) : State :=
  { created with
    nextWakeTime := some 12160, latestResult := some 0xFF800000, pending := true, probeRef := probe,
    clockLine := false }

/-- The outcome is a next state with the property. -/
def nextIs (o : Answer) (p : State → Bool) : Bool :=
  match o with
  | .next s => p s
  | _ => false

/-- The outcome is that refusal. -/
def refusedAs (o : Answer) (r : Refusal) : Bool :=
  match o with
  | .refused x => x == r
  | _ => false

/-- One step from a state in which one event is presented. -/
def stepOn (e : Event) (s : State) : Answer := step { s with inbox := [e] }

/-! ### WellFormed refuses an ill-formed term of each kind (R62, R68) -/

theorem test_wf_legal : (Instr.configure 3 1 2 1 (-1) 0).wellFormed Params.nominal = true := by decide

theorem test_wf_gain_low : (Instr.configure 3 1 2 0 1 0).wellFormed Params.nominal = false := by decide

theorem test_wf_gain_high : (Instr.configure 3 1 2 4 1 0).wellFormed Params.nominal = false := by decide

theorem test_wf_invert : (Instr.configure 3 1 2 1 0 0).wellFormed Params.nominal = false := by decide

theorem test_wf_id_wide :
    (Instr.configure (2 ^ 32) 1 2 1 1 0).wellFormed Params.nominal = false ∧
    (Instr.queryArm (2 ^ 32) none 0).wellFormed Params.nominal = false ∧
    (Instr.queryHold (2 ^ 32) none 0).wellFormed Params.nominal = false ∧
    (Instr.queryDis (2 ^ 32) none 0).wellFormed Params.nominal = false := by decide

theorem test_wf_probe_wide :
    (Instr.queryArm 3 (some (2 ^ 32)) 0).wellFormed Params.nominal = false ∧
    (Instr.queryHold 3 (some (2 ^ 32)) 0).wellFormed Params.nominal = false ∧
    (Instr.queryDis 3 (some (2 ^ 32)) 0).wellFormed Params.nominal = false ∧
    (Instr.queryDis 3 (some (2 ^ 32 - 1)) 0).wellFormed Params.nominal = true := by decide

theorem test_wf_pins_equal : (Instr.configure 3 1 1 1 1 0).wellFormed Params.nominal = false := by decide

theorem test_wf_data_pin_owned :
    (Instr.configure 3 1 2 1 1 0).wellFormed { Params.nominal with ownedPins := [1] } = false := by decide

theorem test_wf_clock_pin_owned :
    (Instr.configure 3 1 2 1 1 0).wellFormed { Params.nominal with ownedPins := [2] } = false := by decide

/-! ### Decoding: words of table V-C and of R65, one per operation -/

theorem test_decode_nrdy : decode (.tick 0b101010 9) = .ok (.nrdy 9) := by decide

theorem test_decode_start : decode (.tick 0b101001 9) = .ok (.start 9) := by decide

theorem test_decode_rise : decode (.tick 0b001011 9) = .ok (.rise 9) := by decide

theorem test_decode_rise_extra : decode (.tick 0b000010 9) = .ok (.rise 9) := by decide

theorem test_decode_fallc : decode (.tick 0b011011 9) = .ok (.fallc true 9) := by decide

theorem test_decode_fallx : decode (.tick 0b010010 9) = .ok (.fallx 9) := by decide

theorem test_decode_fallcEndr : decode (.tick 0b011111 9) = .ok (.fallcEndr true 9) := by decide

theorem test_decode_fallcEnds : decode (.tick 0b011100 9) = .ok (.fallcEnds false 9) := by decide

theorem test_decode_fallxEndr : decode (.tick 0b010111 9) = .ok (.fallxEndr 9) := by decide

theorem test_decode_fallxEnds : decode (.tick 0b010100 9) = .ok (.fallxEnds 9) := by decide

theorem test_decode_configure :
    decode (.configure 3 1 2 1 1 0) = .ok (.configure 3 1 2 1 1 0) := by decide

theorem test_decode_queryArm : decode (.query 0b10 3 none 0) = .ok (.queryArm 3 none 0) := by decide

theorem test_decode_queryHold : decode (.query 0b11 3 (some 5) 0) = .ok (.queryHold 3 (some 5) 0) := by decide

theorem test_decode_queryDis : decode (.query 0b01 3 none 990) = .ok (.queryDis 3 none 990) := by decide

theorem test_decode_consumeIdle : decode (.consume 0b01 0) = .ok (.consumeIdle 0) := by decide

theorem test_decode_consumeRpt : decode (.consume 0b10 0) = .ok (.consumeRpt 0) := by decide

theorem test_decode_consumePrb : decode (.consume 0b11 0) = .ok (.consumePrb 0) := by decide

/-- R69: `z = 1` with `o = 1` cannot occur and is rejected by name. -/
theorem test_decode_impossible : decode (.tick 0b111010 0) = .error .manyRows := by decide

/-- Log 3: table words, the format in bits 7..6. -/
theorem test_table_words :
    decodeTableWord 8 0b100010 = some (.nrdy 0) ∧ decodeTableWord 8 0b100000 = some (.start 0) ∧
    decodeTableWord 8 0b10000010 = some (.queryArm 0 none 0) ∧
    decodeTableWord 8 0b11000011 = some (.consumePrb 0) ∧ decodeTableWord 8 0b111010 = none := by decide

/-- Log 2, 3: a placed table word runs as the first operation after reset. -/
theorem test_placed_word_runs :
    nextIs (step (State.reset.withFetchWord 8 0b010101)) (fun s => s.pulseIndex == 0 && s.pending) = true ∧
    nextIs (step (State.reset.withFetchWord 8 64)) (fun s => s.devExists && s.gainCode == 1) = true := by decide

/-! ### Selection of table V-C -/

theorem test_sel_nrdy : tickSelector 0 1 true true = 0b101011 := by decide

theorem test_sel_last_data_bit : tickSelector 47 1 false true = 0b011001 := by decide

theorem test_sel_fallx : tickSelector 51 3 true false = 0b010010 := by decide

theorem test_sel_completion : tickSelector 53 3 false false = 0b010100 ∧ tickSelector 47 0 true true = 0b011111 := by
  decide

/-! ### Single operations of the engine (table V-D), one step each -/

theorem test_nrdy :
    nextIs (stepOn (.tick .high 437) (engine 0 1 0 false)) (fun s =>
      s.pulseIndex == 0 && s.shiftAccumulator == 0 && !s.clockLine && s.nextWakeTime == some 637 &&
      s.armed && s.outbox == [.reschedule 637]) = true := by decide

theorem test_start :
    nextIs (stepOn (.tick .undriven 400) (engine 0 1 0 true)) (fun s =>
      s.pulseIndex == 1 && s.clockLine && s.nextWakeTime == some 440) = true := by decide

theorem test_rise :
    nextIs (stepOn (.tick .high 480) (engine 2 1 0x80000000 true)) (fun s =>
      s.pulseIndex == 3 && s.shiftAccumulator == 0x80000000 && s.clockLine && s.nextWakeTime == some 520) = true := by
  decide

theorem test_fallc_first :
    nextIs (stepOn (.tick .high 440) (engine 1 1 0 true)) (fun s =>
      s.pulseIndex == 2 && s.shiftAccumulator == 0x80000000 && !s.clockLine) = true := by decide

theorem test_fallc_last :
    nextIs (stepOn (.tick .high 2080) (engine 47 1 0xFFFFFE00 true)) (fun s =>
      s.pulseIndex == 48 && s.shiftAccumulator == 0xFFFFFF00 && s.nextWakeTime == some 2120) = true := by decide

theorem test_fallx :
    nextIs (stepOn (.tick .high 3560) (engine 49 3 0x12345600 true)) (fun s =>
      s.pulseIndex == 50 && s.shiftAccumulator == 0x12345600 && !s.clockLine) = true := by decide

theorem test_fallxEndr :
    nextIs (stepOn (.tick .low 2160) (engine 49 1 0x80000000 true)) (fun s =>
      s.pulseIndex == 0 && s.shiftAccumulator == 0 && s.latestResult == some (BitVec.ofInt 32 (-8388608)) &&
      s.pending && s.nextWakeTime == some 12160 && s.armed) = true := by decide

theorem test_fallxEnds :
    nextIs (stepOn (.tick .low 2160) { engine 49 1 0x7FFFFF00 false with invert := .minus }) (fun s =>
      s.pulseIndex == 0 && s.latestResult == some (BitVec.ofInt 32 (-8388607)) && s.pending && !s.armed &&
      s.nextWakeTime == some 400 && s.outbox == [.stop]) = true := by decide

theorem test_fallcEndr :
    nextIs (stepOn (.tick .high 2080) (engine 47 0 0xFFFFFE00 true)) (fun s =>
      s.latestResult == some (BitVec.ofInt 32 (-1)) && s.pulseIndex == 0 && s.shiftAccumulator == 0) = true := by decide

theorem test_fallcEnds :
    nextIs (stepOn (.tick .low 2080) (engine 47 0 0x00000100 false)) (fun s =>
      s.latestResult == some 1 && s.pulseIndex == 0 && !s.armed && s.clockLine == false) = true := by decide

theorem test_tick_refusals :
    refusedAs (stepOn (.tick .low 500) created) .notArmed = true ∧
    refusedAs (stepOn (.tick .low 399) (engine 0 1 0 true)) .early = true ∧
    refusedAs (stepOn (.tick .low 0) State.reset) .absent = true := by decide

/-! ### The conversion (table V-A) -/

theorem test_assemble_most_negative_inverted :
    assemble 0x80000000 .plus = 0xFF800000 ∧ assemble 0x80000000 .minus = 0x00800000 := by decide

theorem test_assemble_pattern : assemble 0xA5A5A500 .minus = 0x005A5A5B ∧ assemble 0xFFFFFF00 .plus = 0xFFFFFFFF := by
  decide

/-! ### Lifecycle (table V-E) -/

theorem test_configure :
    nextIs (stepOn (.configure 3 1 2 1 1 0) State.reset) (fun s => s == { created with inbox := [] }) = true := by decide

theorem test_configure_refusals :
    refusedAs (stepOn (.configure 3 1 2 1 1 0) created) .reconfig = true ∧
    refusedAs (stepOn (.configure 3 1 2 4 1 0) State.reset) .gain = true ∧
    refusedAs (stepOn (.configure 3 1 2 1 0 0) State.reset) .invert = true ∧
    refusedAs (stepOn (.configure 3 1 1 1 1 0) State.reset) .pins = true := by decide

theorem test_queryArm_first :
    nextIs (stepOn (.query 3 true none 0) created) (fun s =>
      s.enabled && s.armed && s.pulseIndex == 0 && !s.clockLine && s.nextWakeTime == some 200) = true := by decide

theorem test_queryArm_abandons :
    nextIs (stepOn (.query 3 true none 395) (engine 5 1 0xC0000000 false)) (fun s =>
      s.enabled && s.armed && s.pulseIndex == 0 && s.shiftAccumulator == 0 && !s.clockLine &&
      s.nextWakeTime == some 595 && !s.pending) = true := by decide

theorem test_queryHold :
    nextIs (stepOn (.query 3 true (some 5) 0) (engine 17 1 0x81000000 true)) (fun s =>
      s == { engine 17 1 0x81000000 true with probeRef := some 5, inbox := [] }) = true := by decide

theorem test_queryDis :
    nextIs (stepOn (.query 3 false none 0) (engine 20 1 0x12000000 true)) (fun s =>
      s == { engine 20 1 0x12000000 true with enabled := false, inbox := [] }) = true := by decide

theorem test_query_refusals :
    refusedAs (stepOn (.query 4 true none 0) created) .id = true ∧
    refusedAs (stepOn (.query 3 true none 0) State.reset) .absent = true ∧
    refusedAs (stepOn (.query 3 true none 0) { created with lastTime := 1 }) .time = true := by decide

/-! ### Notifier (table V-F) -/

theorem test_consumeIdle :
    nextIs (stepOn (.consume 0) { created with latestResult := some 5 }) (fun s =>
      s == { created with latestResult := some 5, inbox := [] }) = true := by decide

theorem test_consumeRpt :
    nextIs (stepOn (.consume 0) (reporting none)) (fun s =>
      !s.pending && s.outbox == [.stateReport 3 12160 0xFF800000]) = true := by decide

theorem test_consumePrb :
    nextIs (stepOn (.consume 0) (reporting (some 9))) (fun s =>
      !s.pending && s.outbox == [.probeSample 9 0xFF800000 12160, .stateReport 3 12160 0xFF800000]) = true := by decide

/-! ### Witnesses: for each statement with hypotheses, a state and operands that meet them all -/

/-- The nine TICK statements and `TickTouchesOnlyTheEnginesState`. -/
theorem test_witness_tick_admitted : (engine 1 1 0 true).tickAdmits 400 :=
  ⟨rfl, rfl, ⟨400, rfl, by decide⟩, by decide⟩

theorem test_witness_tick_next : ∃ s', exec (.rise 400) (engine 2 1 0 true) = .next s' := ⟨_, rfl⟩

theorem test_witness_configure_admitted :
    State.reset.configureAdmits 1 2 1 (-1) 0 ∧ State.reset.configureAdmits 1 2 3 1 0 := by
  constructor <;> simp [State.configureAdmits, State.reset, Params.nominal]

theorem test_witness_query_admitted : (engine 1 1 0 true).queryAdmits 3 0 := ⟨rfl, rfl, by decide⟩

/-- `QueryHoldKeepsTheFrameUnlessLevelRetrigger`, each clause. -/
theorem test_witness_query_hold :
    (engine 1 1 0 true).enabled = true ∧ (engine 1 1 0 true).params.enableRetrigger = .edge ∧
    State.queryAdmits 3 0 { engine 1 1 0 true with params := { Params.nominal with enableRetrigger := .level } } :=
  ⟨rfl, rfl, rfl, rfl, by decide⟩

theorem test_witness_query_next : ∃ s', exec (.queryArm 3 none 0) created = .next s' := ⟨_, rfl⟩

theorem test_witness_consume_idle : created.consumeAdmits 0 ∧ created.pending = false := ⟨⟨rfl, by decide⟩, rfl⟩

/-- The two report statements; the timestamp clause is met too. -/
theorem test_witness_consume_report :
    (reporting (some 9)).consumeAdmits 0 ∧ (reporting (some 9)).latestResult = some 0xFF800000 ∧
    (reporting (some 9)).probeRef = some 9 ∧
    (reporting (some 9)).params.timestampSource = .nextWakeTime ∧
    (reporting (some 9)).nextWakeTime = some 12160 :=
  ⟨⟨rfl, by decide⟩, rfl, rfl, rfl, rfl⟩

theorem test_witness_consume_next : ∃ s', exec (.consumeRpt 0) (reporting none) = .next s' := ⟨_, rfl⟩

theorem test_witness_report_without_result :
    State.consumeAdmits 0 { created with probeRef := some 9 } ∧
    ({ created with probeRef := some 9 } : State).latestResult = none := ⟨⟨rfl, by decide⟩, rfl⟩

/-- `ReportsCarryTheLatestResult`. -/
theorem test_witness_report_in_invariants :
    ({ reporting (some 9) with inbox := [.consume 0] } : State).Inv ∧ (reporting (some 9)).pending = true ∧
    ∃ s', step { reporting (some 9) with inbox := [.consume 0] } = .next s' := by
  refine ⟨⟨by decide, fun _ => ?_⟩, rfl, _, rfl⟩
  constructor <;> simp [reporting, created, State.reset, Params.nominal]

/-- `StepPerformsTheSelectedOperation`. -/
theorem test_witness_step_selects :
    ({ engine 1 1 0 true with inbox := [.tick .high 400] } : State).inbox = [.tick .high 400] ∧
    decode (eventWord (.tick .high 400) { engine 1 1 0 true with inbox := [] }) = .ok (.fallc true 400) := by decide

theorem test_witness_step_idle : State.reset.inbox = [] := rfl

/-- `ImpossibleSelectorsNeverFormed`, its last clause, which has hypotheses. -/
theorem test_witness_impossible_selectors :
    (tickSelector 47 0 true true).getLsbD 4 = true ∧ (tickSelector 47 0 true true).getLsbD 3 = true ∧
    (tickSelector 47 0 true true).getLsbD 2 = true := by decide

/-- `DecodeAndEncodeAgree`, second clause, with a word whose ignored bits are set. -/
theorem test_witness_decode : decode (.tick 0b001011 9) = .ok (.rise 9) := by decide

theorem test_witness_table_word : decodeTableWord 8 0b011011 = some (.fallc true 0) := by decide

/-- `RefusedExactlyByTheTable`, both directions. -/
theorem test_witness_refused :
    ({ created with inbox := [.tick .low 0] } : State).inbox = [.tick .low 0] ∧
    step { created with inbox := [.tick .low 0] } = .refused .notArmed ∧
    Refusal.condition .notArmed (.tick .low 0) created := ⟨rfl, rfl, rfl⟩

/-- The invariants hold in a running state, in the middle of a frame. -/
theorem test_witness_invariants : (engine 3 1 0x80000000 true).Inv := by
  refine ⟨by decide, fun _ => ?_⟩
  constructor <;> simp [engine, created, State.reset, Params.nominal]

/-- `EveryStepKeepsTheInvariants`, `CounterResetsOnlyAtFrameBoundaries`, `TimeNeverDecreases`. -/
theorem test_witness_invariant_step :
    ({ engine 3 1 0x80000000 true with inbox := [.tick .high 400] } : State).Inv ∧
    ∃ s', step { engine 3 1 0x80000000 true with inbox := [.tick .high 400] } = .next s' := by
  refine ⟨⟨by decide, fun _ => ?_⟩, _, rfl⟩
  constructor <;> simp [engine, created, State.reset, Params.nominal]

/-- `ScheduledWakeIsStrictlyLater`, each clause. -/
theorem test_witness_schedule :
    ({ engine 3 1 0x80000000 false with inbox := [.query 3 true none 400] } : State).Inv ∧
    (engine 3 1 0x80000000 false).enabled = false ∧
    nextIs (step { engine 3 1 0x80000000 false with inbox := [.query 3 true none 400] })
      (fun s => s.nextWakeTime == some 600) = true ∧
    nextIs (step { engine 3 1 0x80000000 true with inbox := [.tick .high 400] })
      (fun s => s.armed && s.nextWakeTime == some 440) = true := by
  refine ⟨⟨by decide, fun _ => ?_⟩, rfl, by decide, by decide⟩
  constructor <;> simp [engine, created, State.reset, Params.nominal]

/-- `AdmittedEventsComplete`. -/
theorem test_witness_admitted_event :
    ∀ r : Refusal, ¬ r.condition (.tick .high 400) (engine 3 1 0x80000000 true) := by
  intro r
  cases r <;> simp [Refusal.condition, engine, created, State.reset, Event.time]

/-- `CaptureSetsExactlyItsBit`, at both ends of the window. -/
theorem test_witness_capture : 1 % 2 = 1 ∧ 1 < 48 ∧ 47 % 2 = 1 ∧ 47 < 48 ∧ 31 < 32 := by decide

/-- `FrameResultIsInvertTimesSignedField`: gain code 1, the pattern `100…0` of S9, ticks exactly `T_EDGE` apart. -/
theorem test_witness_frame :
    ∃ (drives : Nat → Drive) (times : Nat → Nat) (field : BitVec 24) (s : State),
      s.devExists = true ∧ s.armed = true ∧ s.pulseIndex = 0 ∧ s.shiftAccumulator = 0 ∧
      s.nextWakeTime = some 400 ∧ 400 ≤ times 0 ∧ s.lastTime ≤ times 0 ∧
      (∀ k, times k + s.params.tEdge ≤ times (k + 1)) ∧ portRead (drives 0) = false ∧
      (∀ k, k < 24 → field.getLsbD (23 - k) = portRead (drives (2 * k + 1))) ∧
      s.inbox = (List.range (48 + 2 * s.gainCode)).map (fun k => .tick (drives k) (times k)) ++ [] := by
  refine ⟨fun k => if k = 1 then .high else .low, fun k => 400 + 40 * k, 0x800000,
    { engine 0 1 0 true with
      inbox := (List.range 50).map (fun k => .tick (if k = 1 then .high else .low) (400 + 40 * k)) },
    rfl, rfl, rfl, rfl, rfl, by decide, by decide, ?_, rfl, by decide, by rw [List.append_nil]; rfl⟩
  intro k
  show 400 + 40 * k + 40 ≤ 400 + 40 * (k + 1)
  omega

/-- `FrameInProgressHoldsItsBits`, two half-cycles into the frame, an event left over. -/
theorem test_witness_frame_in_progress :
    ∃ (drives : Nat → Drive) (times : Nat → Nat) (s : State),
      s.devExists = true ∧ s.armed = true ∧ s.pulseIndex = 0 ∧ s.shiftAccumulator = 0 ∧
      s.nextWakeTime = some 400 ∧ 400 ≤ times 0 ∧ s.lastTime ≤ times 0 ∧
      (∀ k, times k + s.params.tEdge ≤ times (k + 1)) ∧ portRead (drives 0) = false ∧
      0 < 2 ∧ 2 < 48 + 2 * s.gainCode ∧
      s.inbox = (List.range 2).map (fun k => .tick (drives k) (times k)) ++ [.consume 900] := by
  refine ⟨fun k => if k = 1 then .high else .low, fun k => 400 + 40 * k,
    { engine 0 1 0 true with inbox := [.tick .low 400, .tick .high 440, .consume 900] },
    rfl, rfl, rfl, rfl, rfl, by decide, by decide, ?_, rfl, by decide, by decide, rfl⟩
  intro k
  show 400 + 40 * k + 40 ≤ 400 + 40 * (k + 1)
  omega

/-- `NotReadyRetriesForever`. -/
theorem test_witness_not_ready :
    ∃ (times : Nat → Nat) (s : State),
      s.devExists = true ∧ s.armed = true ∧ s.pulseIndex = 0 ∧
      s.nextWakeTime = some 400 ∧ 400 ≤ times 0 ∧ s.lastTime ≤ times 0 ∧
      (∀ k, times k + s.params.tRetry ≤ times (k + 1)) ∧
      s.inbox = (List.range 2).map (fun k => .tick .high (times k)) ++ [] := by
  refine ⟨fun k => 400 + 200 * k,
    { engine 0 1 0 true with inbox := [.tick .high 400, .tick .high 600] },
    rfl, rfl, rfl, rfl, by decide, by decide, ?_, rfl⟩
  intro k
  show 400 + 200 * k + 200 ≤ 400 + 200 * (k + 1)
  omega

/-- `LatestResultWrittenOnlyByCompletions`, `EngineStopsOnlyAtDisabledCompletion`: a completion. -/
theorem test_witness_completion :
    ({ engine 49 1 0x100 false with inbox := [.tick .low 400] } : State).completesNext = true ∧
    ∃ s', step { engine 49 1 0x100 false with inbox := [.tick .low 400] } = .next s' ∧
      s'.latestResult ≠ (engine 49 1 0x100 false).latestResult ∧ s'.armed = false :=
  ⟨rfl, _, rfl, by decide, rfl⟩

/-- `LifecycleFollowsTheTable`: each row of R118 is left and each condition occurs. -/
theorem test_witness_lifecycle :
    State.reset.condition = .absent ∧
    nextIs (stepOn (.configure 3 1 2 1 1 0) State.reset) (fun s => s.condition == .configuredIdle) = true ∧
    nextIs (stepOn (.query 3 true none 0) created) (fun s => s.condition == .running) = true ∧
    nextIs (stepOn (.query 3 false none 0) (engine 20 1 0 true)) (fun s => s.condition == .draining) = true ∧
    nextIs (stepOn (.tick .low 400) (engine 49 1 0 false)) (fun s => s.condition == .stopped) = true ∧
    nextIs (stepOn (.query 3 true none 0) (reporting none)) (fun s => s.condition == .running) = true := by decide

theorem test_witness_quiescent :
    created.quiescent ∧ ∃ s', step { created with inbox := [.query 3 true none 0] } = .next s' := ⟨⟨rfl, rfl⟩, _, rfl⟩

/-- `NoMoreReportsThanCompletedFrames`. -/
theorem test_witness_run :
    ∃ s', Host.Core.run core 1 { reporting none with inbox := [.consume 0] } = .next s' := ⟨_, rfl⟩

/-- `SecondConsumeIsIdle`. -/
theorem test_witness_two_consumes :
    ∃ s1 s2, step { reporting none with inbox := [.consume 0, .consume 1] } = .next s1 ∧ step s1 = .next s2 :=
  ⟨_, _, rfl, rfl⟩

/-- `DataIndependentOfTiming`: two different times and two different delays. -/
theorem test_witness_timing :
    (engine 1 1 0 true).untimed =
      State.untimed { engine 1 1 0 true with params := { Params.nominal with tEdge := 41 }, nextWakeTime := some 7 } ∧
    (∃ a, exec (Instr.withTime 400 (.fallc true 0)) (engine 1 1 0 true) = .next a) ∧
    ∃ b, exec (Instr.withTime 9 (.fallc true 0))
      { engine 1 1 0 true with params := { Params.nominal with tEdge := 41 }, nextWakeTime := some 7 } = .next b :=
  ⟨rfl, ⟨_, rfl⟩, _, rfl⟩

end Sys2Proof.Tests
end

/-! ## Scope (`00_scope.md`): one event per step, and when a schedule falls due

First the layer about `exec` and `step` that every later proof can use: what an operation answers when its event is
admitted, which operations an event selects, and when the event happened. -/

namespace Sys2Proof

/-- The time an operation's event carries (R8). -/
def Instr.time : Instr → Nat
  | .nrdy t => t
  | .start t => t
  | .rise t => t
  | .fallc _ t => t
  | .fallx t => t
  | .fallcEndr _ t => t
  | .fallcEnds _ t => t
  | .fallxEndr t => t
  | .fallxEnds t => t
  | .configure _ _ _ _ _ t => t
  | .queryArm _ _ t => t
  | .queryHold _ _ t => t
  | .queryDis _ _ t => t
  | .consumeIdle t => t
  | .consumeRpt t => t
  | .consumePrb t => t

end Sys2Proof

namespace Sys2Proof.Machine

/-! ### What an admitted operation answers

An operation has a next state exactly when its event is admitted, and then it is the state its rule gives. -/

section
variable {t id dataPin clockPin g : Nat} {inv : Int} {d : Level} {probe : Option Nat} {s a s' : State}

theorem admitted_tick_next_iff :
    admitted (tickRefusal t s) (.next a) = .next s' ↔ s.tickAdmits t ∧ s' = a := by
  rw [admitted_next_iff, tickRefusal_none_iff, Host.Outcome.next.injEq, eq_comm (a := a)]

theorem admitted_query_next_iff :
    admitted (queryRefusal id t s) (.next a) = .next s' ↔ s.queryAdmits id t ∧ s' = a := by
  rw [admitted_next_iff, queryRefusal_none_iff, Host.Outcome.next.injEq, eq_comm (a := a)]

theorem admitted_consume_next_iff :
    admitted (consumeRefusal t s) (.next a) = .next s' ↔ s.consumeAdmits t ∧ s' = a := by
  rw [admitted_next_iff, consumeRefusal_none_iff, Host.Outcome.next.injEq, eq_comm (a := a)]

theorem admitted_configure_next_iff :
    admitted (configureRefusal dataPin clockPin g inv t s) (.next a) = .next s' ↔
      s.configureAdmits dataPin clockPin g inv t ∧ s' = a := by
  rw [admitted_next_iff, configureRefusal_none_iff, Host.Outcome.next.injEq, eq_comm (a := a)]

theorem exec_nrdy_next_iff : exec (.nrdy t) s = .next s' ↔
    s.tickAdmits t ∧ s' = (s.seen t).reschedule (t + s.params.tRetry) :=
  admitted_tick_next_iff

theorem exec_start_next_iff : exec (.start t) s = .next s' ↔
    s.tickAdmits t ∧
      s' = (((s.seen t).portWrite true).setPulseIndex 1).reschedule (t + s.params.tEdge) :=
  admitted_tick_next_iff

theorem exec_rise_next_iff : exec (.rise t) s = .next s' ↔
    s.tickAdmits t ∧ s' = ((s.seen t).halfCycle true).reschedule (t + s.params.tEdge) :=
  admitted_tick_next_iff

theorem exec_fallc_next_iff : exec (.fallc d t) s = .next s' ↔
    s.tickAdmits t ∧
      s' = (((s.seen t).capture d).halfCycle false).reschedule (t + s.params.tEdge) :=
  admitted_tick_next_iff

theorem exec_fallx_next_iff : exec (.fallx t) s = .next s' ↔
    s.tickAdmits t ∧ s' = ((s.seen t).halfCycle false).reschedule (t + s.params.tEdge) :=
  admitted_tick_next_iff

theorem exec_fallcEndr_next_iff : exec (.fallcEndr d t) s = .next s' ↔
    s.tickAdmits t ∧
      s' = (((s.seen t).capture d).halfCycle false).complete.reschedule (t + s.params.tSample) :=
  admitted_tick_next_iff

theorem exec_fallcEnds_next_iff : exec (.fallcEnds d t) s = .next s' ↔
    s.tickAdmits t ∧ s' = (((s.seen t).capture d).halfCycle false).complete.stop :=
  admitted_tick_next_iff

theorem exec_fallxEndr_next_iff : exec (.fallxEndr t) s = .next s' ↔
    s.tickAdmits t ∧
      s' = ((s.seen t).halfCycle false).complete.reschedule (t + s.params.tSample) :=
  admitted_tick_next_iff

theorem exec_fallxEnds_next_iff : exec (.fallxEnds t) s = .next s' ↔
    s.tickAdmits t ∧ s' = ((s.seen t).halfCycle false).complete.stop :=
  admitted_tick_next_iff

theorem exec_configure_next_iff : exec (.configure id dataPin clockPin g inv t) s = .next s' ↔
    s.configureAdmits dataPin clockPin g inv t ∧
      s' = (s.seen t).configured id dataPin clockPin g inv :=
  admitted_configure_next_iff

theorem exec_queryArm_next_iff : exec (.queryArm id probe t) s = .next s' ↔
    s.queryAdmits id t ∧ s' = ((s.seen t).setRequest true probe).arm t :=
  admitted_query_next_iff

theorem exec_queryHold_next_iff : exec (.queryHold id probe t) s = .next s' ↔
    s.queryAdmits id t ∧
      s' = if s.params.enableRetrigger = .level then ((s.seen t).setRequest true probe).arm t
        else (s.seen t).setRequest true probe := by
  refine admitted_query_next_iff.trans ?_
  cases s.params.enableRetrigger <;> rfl

theorem exec_queryDis_next_iff : exec (.queryDis id probe t) s = .next s' ↔
    s.queryAdmits id t ∧ s' = (s.seen t).setRequest false probe :=
  admitted_query_next_iff

theorem exec_consumeIdle_next_iff : exec (.consumeIdle t) s = .next s' ↔
    s.consumeAdmits t ∧ s' = (s.seen t).clearPending :=
  admitted_consume_next_iff

theorem exec_consumeRpt_next_iff : exec (.consumeRpt t) s = .next s' ↔
    s.consumeAdmits t ∧
      s' = ((s.seen t).clearPending.report s.timestamp s.reportedResult).tookTimestamp :=
  admitted_consume_next_iff

theorem exec_consumePrb_next_iff : exec (.consumePrb t) s = .next s' ↔
    s.consumeAdmits t ∧
      s' = (((s.seen t).clearPending.sample s.timestamp s.reportedResult).report s.timestamp
        s.reportedResult).tookTimestamp :=
  admitted_consume_next_iff

end

/-! ### Which operations an event selects -/

/-- What the table's look-up answers is built by one of the table's rows. -/
theorem exists_row_of_lookup {n : Nat} {α : Type} {rows : List (Row n α)} {sel : BitVec n} {a : α}
    (h : lookup rows sel = .ok a) : ∃ r ∈ rows, r.hits sel = true ∧ r.build sel = a := by
  unfold lookup at h
  split at h
  next => cases h
  next r hr =>
    have hmem : r ∈ rows.filter (Row.hits sel) := by rw [hr]; exact List.mem_singleton_self r
    obtain ⟨hrow, hhits⟩ := List.mem_filter.mp hmem
    exact ⟨r, hrow, hhits, Except.ok.inj h⟩
  next => cases h

/-- A `TICK` word selects a `TICK` operation (R66), at the word's time. -/
theorem decode_tick_isTick {sel : BitVec 6} {t : Nat} {i : Instr} (h : decode (.tick sel t) = .ok i) :
    i.isTick = true ∧ i.time = t := by
  have hrows : ∀ r ∈ tickRows, (r.build sel t).isTick = true ∧ (r.build sel t).time = t := by
    simp [tickRows, Instr.isTick, Instr.time]
  have hmap : (lookup tickRows sel).map (· t) = .ok i := h
  cases hl : lookup tickRows sel with
  | error x => rw [hl] at hmap; cases hmap
  | ok f =>
    rw [hl] at hmap
    cases hmap
    obtain ⟨r, hr, -, rfl⟩ := exists_row_of_lookup hl
    exact hrows r hr

/-- R65, the QRY rows. -/
theorem decode_query_eventWord (id : Nat) (en : Bool) (probe : Option Nat) (t : Nat) (s : State) :
    decode (eventWord (.query id en probe t) s) = .ok (
      if en = true then (if s.enabled = true then .queryHold id probe t else .queryArm id probe t)
      else .queryDis id probe t) := by
  unfold eventWord
  cases en <;> cases s.enabled <;> rfl

/-- R65, the CNS rows. -/
theorem decode_consume_eventWord (t : Nat) (s : State) :
    decode (eventWord (.consume t) s) = .ok (
      if s.pending = true then (if s.probeRef = none then .consumeRpt t else .consumePrb t)
      else .consumeIdle t) := by
  have hflags : ∀ pending present : Bool,
      decode (.consume (BitVec.ofBool pending ++ BitVec.ofBool present) t) = .ok (
        if pending = true then (if present = true then .consumePrb t else .consumeRpt t)
        else .consumeIdle t) := by
    intro pending present
    cases pending <;> cases present <;> rfl
  refine (hflags s.pending s.probeRef.isSome).trans ?_
  cases s.probeRef <;> rfl

/-! ### What a step does -/

section
variable {s s' : State} {e : Event} {rest : List Event} {i : Instr}

theorem step_of_inbox_nil (h : s.inbox = []) : step s = .next s := by
  unfold step
  rw [h]

theorem step_of_decode (hin : s.inbox = e :: rest)
    (hd : decode (eventWord e { s with inbox := rest }) = .ok i) :
    step s = exec i { s with inbox := rest } := by
  simp only [step, hin, hd]

/-- A step that takes an event and answers a next state has performed the operation the event selects. -/
theorem exec_of_step_next (hin : s.inbox = e :: rest) (h : step s = .next s') :
    ∃ i, decode (eventWord e { s with inbox := rest }) = .ok i ∧
      exec i { s with inbox := rest } = .next s' := by
  cases hd : decode (eventWord e { s with inbox := rest }) with
  | ok i => exact ⟨i, rfl, step_of_decode hin hd ▸ h⟩
  | error x => simp [step, hin, hd] at h

/-- R80: a `TICK` operation ends in one schedule decision, which reschedules after one of R5's delays or stops; what
comes before the decision leaves the wake time alone. -/
theorem exec_tick_next (hi : i.isTick = true) (h : exec i s = .next s') :
    s.tickAdmits i.time ∧ ∃ x : State,
      ((∃ delay ∈ [s.params.tRetry, s.params.tEdge, s.params.tSample],
          s' = x.reschedule (i.time + delay)) ∨ s' = x.stop) ∧
        x.lastTime = i.time ∧ x.nextWakeTime = s.nextWakeTime := by
  cases i with
  | nrdy t =>
    obtain ⟨hadm, hs'⟩ := exec_nrdy_next_iff.mp h
    exact ⟨hadm, _, .inl ⟨_, by simp, hs'⟩, by simp [Instr.time]⟩
  | start t =>
    obtain ⟨hadm, hs'⟩ := exec_start_next_iff.mp h
    exact ⟨hadm, _, .inl ⟨_, by simp, hs'⟩, by simp [Instr.time]⟩
  | rise t =>
    obtain ⟨hadm, hs'⟩ := exec_rise_next_iff.mp h
    exact ⟨hadm, _, .inl ⟨_, by simp, hs'⟩, by simp [Instr.time]⟩
  | fallc d t =>
    obtain ⟨hadm, hs'⟩ := exec_fallc_next_iff.mp h
    exact ⟨hadm, _, .inl ⟨_, by simp, hs'⟩, by simp [Instr.time]⟩
  | fallx t =>
    obtain ⟨hadm, hs'⟩ := exec_fallx_next_iff.mp h
    exact ⟨hadm, _, .inl ⟨_, by simp, hs'⟩, by simp [Instr.time]⟩
  | fallcEndr d t =>
    obtain ⟨hadm, hs'⟩ := exec_fallcEndr_next_iff.mp h
    exact ⟨hadm, _, .inl ⟨_, by simp, hs'⟩, by simp [Instr.time]⟩
  | fallcEnds d t =>
    obtain ⟨hadm, hs'⟩ := exec_fallcEnds_next_iff.mp h
    exact ⟨hadm, _, .inr hs', by simp [Instr.time]⟩
  | fallxEndr t =>
    obtain ⟨hadm, hs'⟩ := exec_fallxEndr_next_iff.mp h
    exact ⟨hadm, _, .inl ⟨_, by simp, hs'⟩, by simp [Instr.time]⟩
  | fallxEnds t =>
    obtain ⟨hadm, hs'⟩ := exec_fallxEnds_next_iff.mp h
    exact ⟨hadm, _, .inr hs', by simp [Instr.time]⟩
  | _ => cases hi

/-- R112 to R115: a `QUERY` that enables a disabled device, or any enabling one with level retrigger, arms the engine;
any other only writes the request. -/
theorem step_query_next {id : Nat} {en : Bool} {probe : Option Nat} {t : Nat}
    (hin : s.inbox = .query id en probe t :: rest) (h : step s = .next s') :
    s' = if en = true ∧ (s.enabled = false ∨ s.params.enableRetrigger = .level) then
        (({ s with inbox := rest }.seen t).setRequest en probe).arm t
      else ({ s with inbox := rest }.seen t).setRequest en probe := by
  obtain ⟨i, hd, hx⟩ := exec_of_step_next hin h
  rw [decode_query_eventWord, Except.ok.injEq] at hd
  subst hd
  cases en with
  | false => simpa using (exec_queryDis_next_iff.mp hx).2
  | true =>
    cases hen : s.enabled with
    | false =>
      simp only [hen] at hx
      simpa using (exec_queryArm_next_iff.mp hx).2
    | true =>
      simp only [hen] at hx
      simpa using (exec_queryHold_next_iff.mp hx).2

/-- R110. -/
theorem step_configure_next {id dataPin clockPin g : Nat} {inv : Int} {t : Nat}
    (hin : s.inbox = .configure id dataPin clockPin g inv t :: rest) (h : step s = .next s') :
    s' = ({ s with inbox := rest }.seen t).configured id dataPin clockPin g inv := by
  obtain ⟨i, hd, hx⟩ := exec_of_step_next hin h
  cases hd
  exact (exec_configure_next_iff.mp hx).2

/-- R120 to R123: a `CONSUME` is recorded and leaves the scheduler's state alone. -/
theorem step_consume_schedule {t : Nat} (hin : s.inbox = .consume t :: rest) (h : step s = .next s') :
    s'.lastTime = t ∧ s'.armed = s.armed ∧ s'.nextWakeTime = s.nextWakeTime := by
  obtain ⟨i, hd, hx⟩ := exec_of_step_next hin h
  rw [decode_consume_eventWord, Except.ok.injEq] at hd
  subst hd
  split_ifs at hx with _ hr
  · obtain ⟨-, rfl⟩ := exec_consumeRpt_next_iff.mp hx
    simp
  · obtain ⟨p, hp⟩ := Option.ne_none_iff_exists'.mp hr
    obtain ⟨-, rfl⟩ := exec_consumePrb_next_iff.mp hx
    simp [sample_of_probe _ _ (s := ({ s with inbox := rest }.seen t).clearPending) hp]
  · obtain ⟨-, rfl⟩ := exec_consumeIdle_next_iff.mp hx
    simp

end

/-! ### A schedule falls due strictly after it is made -/

/-- The wake time lies strictly after the latest event. -/
def State.wakesLater (s : State) : Prop := ∃ n, s.nextWakeTime = some n ∧ s.lastTime < n

theorem wakesLater_reschedule (x : State) {delay : Nat} (h : 0 < delay) :
    (x.reschedule (x.lastTime + delay)).wakesLater :=
  ⟨_, rfl, Nat.lt_add_of_pos_right h⟩

theorem wakesLater_arm (x : State) (h : 0 < x.params.tRetry) : (x.arm x.lastTime).wakesLater :=
  ⟨_, rfl, Nat.lt_add_of_pos_right h⟩

section
variable {s s' : State} {rest : List Event}

/-- A `TICK` leaves the engine armed for a later time, or stopped with the wake time kept (R91, D19). -/
theorem step_tick_schedule {d : Drive} {t : Nat} (hp : s.params.legal)
    (hin : s.inbox = .tick d t :: rest) (h : step s = .next s') :
    s'.lastTime = t ∧ (s'.wakesLater ∨ s'.armed = false ∧ s'.nextWakeTime = s.nextWakeTime) := by
  obtain ⟨i, hd, hx⟩ := exec_of_step_next hin h
  obtain ⟨hi, rfl⟩ := decode_tick_isTick hd
  obtain ⟨-, x, ⟨delay, hdelay, rfl⟩ | rfl, hlast, hwake⟩ := exec_tick_next hi hx
  · obtain ⟨hRetry, hEdge, hSample⟩ := hp
    have hpos : 0 < delay := by
      simp only [List.mem_cons, List.not_mem_nil, or_false] at hdelay
      obtain rfl | rfl | rfl := hdelay <;> assumption
    exact ⟨hlast, .inl (hlast ▸ wakesLater_reschedule x hpos)⟩
  · exact ⟨hlast, .inr ⟨rfl, hwake⟩⟩

/-- A `QUERY` that arms leaves the engine armed for a later time (R113). -/
theorem step_arming_query_schedule {id t : Nat} {probe : Option Nat} (hp : s.params.legal)
    (hin : s.inbox = .query id true probe t :: rest) (h : step s = .next s')
    (harm : s.enabled = false ∨ s.params.enableRetrigger = .level) :
    s'.lastTime = t ∧ s'.armed = true ∧ s'.wakesLater := by
  obtain rfl := (step_query_next hin h).trans (if_pos ⟨rfl, harm⟩)
  exact ⟨rfl, rfl, wakesLater_arm (({ s with inbox := rest }.seen t).setRequest true probe) hp.1⟩

/-- Whatever the event, a wake time that a step does not keep lies after the event or has no value. -/
theorem step_wakesLater_or_kept {e : Event} (hp : s.params.legal) (hin : s.inbox = e :: rest)
    (h : step s = .next s') :
    s'.wakesLater ∨ s'.nextWakeTime = s.nextWakeTime ∨ s'.nextWakeTime = none := by
  cases e with
  | tick d t =>
    obtain ⟨-, hlater | ⟨-, hkept⟩⟩ := step_tick_schedule hp hin h
    · exact .inl hlater
    · exact .inr (.inl hkept)
  | configure id dataPin clockPin g inv t =>
    obtain rfl := step_configure_next hin h
    exact .inr (.inr rfl)
  | query id en probe t =>
    by_cases harm : en = true ∧ (s.enabled = false ∨ s.params.enableRetrigger = .level)
    · obtain ⟨rfl, harm⟩ := harm
      exact .inl (step_arming_query_schedule hp hin h harm).2.2
    · obtain rfl := (step_query_next hin h).trans (if_neg harm)
      exact .inr (.inl rfl)
  | consume t => exact .inr (.inl (step_consume_schedule hin h).2.2)

end

/-! ### The obligations -/

/-- Settles O18. -/
theorem stepWithoutEventChangesNothing : Obligations.StepWithoutEventChangesNothing :=
  fun _ => step_of_inbox_nil

/-- Settles O17. -/
theorem stepPerformsTheSelectedOperation : Obligations.StepPerformsTheSelectedOperation :=
  fun _ _ _ _ => step_of_decode

/-- Settles O50: each event makes its schedule a positive delay (R5) after itself, or keeps the old one. -/
theorem scheduledWakeIsStrictlyLater : Obligations.ScheduledWakeIsStrictlyLater := by
  intro s s' e rest ⟨hp, _⟩ hin h
  refine ⟨?_, ?_, ?_⟩
  · rintro d t rfl harmed
    obtain ⟨rfl, hlater | ⟨hstopped, -⟩⟩ := step_tick_schedule hp hin h
    · exact hlater
    · rw [hstopped] at harmed
      cases harmed
  · rintro id probe t rfl harm
    obtain ⟨rfl, harmed, hlater⟩ := step_arming_query_schedule hp hin h harm
    exact ⟨harmed, hlater⟩
  · intro hchanged n hn
    obtain ⟨m, hm, hlt⟩ | hkept | hnone := step_wakesLater_or_kept hp hin h
    · rw [hm, Option.some.injEq] at hn
      exact hn ▸ hlt
    · exact absurd hkept hchanged
    · rw [hnone] at hn
      cases hn

end Sys2Proof.Machine

/-! ## State (`10_state.md`): what each event may touch, and the invariants

First what each kind of operation leaves alone (R26), then what a `TICK` does in the cases of R64, then the invariants
of R24. -/

namespace Sys2Proof.Machine

/-! ### What an operation may touch (R26) -/

/-- `x` has the parameters of `s`, and the record of `s` with its configuration (R14, R15, R21, R110). -/
structure State.SameConfiguration (s x : State) : Prop where
  params : x.params = s.params
  devExists : x.devExists = s.devExists
  id : x.id = s.id
  gainCode : x.gainCode = s.gainCode
  invert : x.invert = s.invert
  dataPin : x.dataPin = s.dataPin
  clockPin : x.clockPin = s.clockPin
  dataLineMode : x.dataLineMode = s.dataLineMode
  clockLineMode : x.clockLineMode = s.clockLineMode

/-- R26's engine column: what the engine has no right to write is as in `s`, and the notifier is not cleared. -/
structure State.EngineFrame (s x : State) : Prop extends s.SameConfiguration x where
  enabled : x.enabled = s.enabled
  probeRef : x.probeRef = s.probeRef
  inbox : x.inbox = s.inbox
  draws : x.draws = s.draws
  pending : s.pending = true → x.pending = true

/-- What a `TICK` has done before its schedule decision: nothing is emitted or scheduled yet. -/
structure State.Undecided (s x : State) : Prop extends s.EngineFrame x where
  nextWakeTime : x.nextWakeTime = s.nextWakeTime
  outbox : x.outbox = s.outbox

section
variable {s x : State}

theorem undecided_seen (s : State) (t : Nat) : s.Undecided (s.seen t) where
  params := rfl
  devExists := rfl
  id := rfl
  gainCode := rfl
  invert := rfl
  dataPin := rfl
  clockPin := rfl
  dataLineMode := rfl
  clockLineMode := rfl
  enabled := rfl
  probeRef := rfl
  inbox := rfl
  draws := rfl
  pending := fun h => h
  nextWakeTime := rfl
  outbox := rfl

theorem State.Undecided.portWrite (h : s.Undecided x) (b : Level) : s.Undecided (x.portWrite b) :=
  { h with }

theorem State.Undecided.setPulseIndex (h : s.Undecided x) (n : Nat) :
    s.Undecided (x.setPulseIndex n) :=
  { h with }

theorem State.Undecided.setAccumulator (h : s.Undecided x) (w : Word) :
    s.Undecided (x.setAccumulator w) :=
  { h with }

theorem State.Undecided.halfCycle (h : s.Undecided x) (b : Level) : s.Undecided (x.halfCycle b) :=
  (h.portWrite b).setPulseIndex _

theorem State.Undecided.capture (h : s.Undecided x) (d : Level) : s.Undecided (x.capture d) :=
  h.setAccumulator _

theorem State.Undecided.setResult_wake (h : s.Undecided x) (w : Word) :
    s.Undecided (x.setResult w).wake :=
  { h with pending := fun _ => rfl }

theorem State.Undecided.complete (h : s.Undecided x) : s.Undecided x.complete :=
  ((h.setResult_wake _).setPulseIndex 0).setAccumulator 0

theorem State.EngineFrame.reschedule (h : s.EngineFrame x) (due : Nat) :
    s.EngineFrame (x.reschedule due) :=
  { h with }

theorem State.EngineFrame.stop (h : s.EngineFrame x) : s.EngineFrame x.stop :=
  { h with }

end

section
variable {s s' : State} {i : Instr}

/-- R80, R91: a `TICK` operation touches the engine's state and then makes its one schedule decision. -/
theorem exec_tick_undecided (hi : i.isTick = true) (h : exec i s = .next s') :
    ∃ x, s.Undecided x ∧ ((∃ due, s' = x.reschedule due) ∨ s' = x.stop) := by
  have hseen := undecided_seen s
  cases i with
  | nrdy t =>
    obtain ⟨-, hs'⟩ := exec_nrdy_next_iff.mp h
    exact ⟨_, hseen t, .inl ⟨_, hs'⟩⟩
  | start t =>
    obtain ⟨-, hs'⟩ := exec_start_next_iff.mp h
    exact ⟨_, ((hseen t).portWrite true).setPulseIndex 1, .inl ⟨_, hs'⟩⟩
  | rise t =>
    obtain ⟨-, hs'⟩ := exec_rise_next_iff.mp h
    exact ⟨_, (hseen t).halfCycle true, .inl ⟨_, hs'⟩⟩
  | fallc d t =>
    obtain ⟨-, hs'⟩ := exec_fallc_next_iff.mp h
    exact ⟨_, ((hseen t).capture d).halfCycle false, .inl ⟨_, hs'⟩⟩
  | fallx t =>
    obtain ⟨-, hs'⟩ := exec_fallx_next_iff.mp h
    exact ⟨_, (hseen t).halfCycle false, .inl ⟨_, hs'⟩⟩
  | fallcEndr d t =>
    obtain ⟨-, hs'⟩ := exec_fallcEndr_next_iff.mp h
    exact ⟨_, (((hseen t).capture d).halfCycle false).complete, .inl ⟨_, hs'⟩⟩
  | fallcEnds d t =>
    obtain ⟨-, hs'⟩ := exec_fallcEnds_next_iff.mp h
    exact ⟨_, (((hseen t).capture d).halfCycle false).complete, .inr hs'⟩
  | fallxEndr t =>
    obtain ⟨-, hs'⟩ := exec_fallxEndr_next_iff.mp h
    exact ⟨_, ((hseen t).halfCycle false).complete, .inl ⟨_, hs'⟩⟩
  | fallxEnds t =>
    obtain ⟨-, hs'⟩ := exec_fallxEnds_next_iff.mp h
    exact ⟨_, ((hseen t).halfCycle false).complete, .inr hs'⟩
  | _ => cases hi

theorem exec_tick_engineFrame (hi : i.isTick = true) (h : exec i s = .next s') : s.EngineFrame s' := by
  obtain ⟨x, hx, ⟨due, rfl⟩ | rfl⟩ := exec_tick_undecided hi h
  · exact hx.toEngineFrame.reschedule due
  · exact hx.toEngineFrame.stop

/-- R112: a `QUERY` operation of an existing device writes the request and may arm the engine if it enables. -/
theorem exec_query_next (hi : i.isQuery = true) (h : exec i s = .next s') :
    s.devExists = true ∧ ∃ en probe,
      s' = (s.seen i.time).setRequest en probe ∨
        en = true ∧ s' = ((s.seen i.time).setRequest en probe).arm i.time := by
  cases i with
  | queryArm id probe t =>
    obtain ⟨⟨hex, -⟩, hs'⟩ := exec_queryArm_next_iff.mp h
    exact ⟨hex, true, probe, .inr ⟨rfl, hs'⟩⟩
  | queryHold id probe t =>
    obtain ⟨⟨hex, -⟩, hs'⟩ := exec_queryHold_next_iff.mp h
    refine ⟨hex, true, probe, ?_⟩
    split_ifs at hs'
    · exact .inr ⟨rfl, hs'⟩
    · exact .inl hs'
  | queryDis id probe t =>
    obtain ⟨⟨hex, -⟩, hs'⟩ := exec_queryDis_next_iff.mp h
    exact ⟨hex, false, probe, .inl hs'⟩
  | _ => cases hi

/-- R113 after R112: all that an arming `QUERY` writes. -/
theorem setRequest_arm_eq (en : Bool) (probe : Option Nat) (t : Nat) (s : State) :
    (s.setRequest en probe).arm t = { s with
      probeRef := probe.map (identifier s.params)
      enabled := en
      pulseIndex := 0
      shiftAccumulator := 0
      clockLine := false
      armed := true
      nextWakeTime := some (t + s.params.tRetry) } := by
  simp only [State.setRequest, State.arm, State.cancel, State.setPulseIndex, State.setAccumulator,
    State.portWrite, State.schedule]

/-- R123: the probe's sample, for a linked probe only. -/
def State.samples (ts : Nat) (v : Word) (s : State) : List Output :=
  match s.probeRef with
  | none => []
  | some p => [.probeSample p v ts]

theorem samples_of_none {s : State} (ts : Nat) (v : Word) (h : s.probeRef = none) :
    s.samples ts v = [] := by
  simp [State.samples, h]

theorem samples_of_probe {s : State} {p : Nat} (ts : Nat) (v : Word) (h : s.probeRef = some p) :
    s.samples ts v = [.probeSample p v ts] := by
  simp [State.samples, h]

theorem sample_eq_append (ts : Nat) (v : Word) (s : State) :
    s.sample ts v = { s with outbox := s.outbox ++ s.samples ts v } := by
  rcases Option.eq_none_or_eq_some s.probeRef with h | ⟨p, h⟩
  · rw [sample_of_none _ _ h, samples_of_none _ _ h, List.append_nil]
  · rw [sample_of_probe _ _ h, samples_of_probe _ _ h]
    rfl

theorem schedule_not_mem_samples (ts : Nat) (v : Word) (s : State) (T : Nat) :
    .reschedule T ∉ s.samples ts v ∧ .stop ∉ s.samples ts v := by
  unfold State.samples
  split <;> simp

/-- R120 to R123: a `CONSUME` operation of an existing device clears the notifier and emits samples and reports. -/
theorem exec_consume_next (hi : i.isConsume = true) (h : exec i s = .next s') :
    s.devExists = true ∧ ∃ os draws, (∀ T, .reschedule T ∉ os ∧ .stop ∉ os) ∧
      s' = { s with
        lastTime := i.time
        pending := false
        outbox := s.outbox ++ os
        draws := draws } := by
  cases i with
  | consumeIdle t =>
    obtain ⟨⟨hex, -⟩, rfl⟩ := exec_consumeIdle_next_iff.mp h
    exact ⟨hex, [], s.draws, by simp, by simp [State.seen, State.clearPending, Instr.time]⟩
  | consumeRpt t =>
    obtain ⟨⟨hex, -⟩, rfl⟩ := exec_consumeRpt_next_iff.mp h
    exact ⟨hex, [.stateReport s.id s.timestamp s.reportedResult], s.draws + 1, by simp, rfl⟩
  | consumePrb t =>
    obtain ⟨⟨hex, -⟩, rfl⟩ := exec_consumePrb_next_iff.mp h
    refine ⟨hex, s.samples s.timestamp s.reportedResult ++
      [.stateReport s.id s.timestamp s.reportedResult], s.draws + 1, ?_, ?_⟩
    · intro T
      simp [schedule_not_mem_samples _ _ s T]
    · rw [sample_eq_append, ← List.append_assoc]
      rfl
  | _ => cases hi

end

/-- R65: a `QUERY` selects a `QUERY` operation. -/
theorem decode_query_isQuery {id t : Nat} {en : Bool} {probe : Option Nat} {s : State} {i : Instr}
    (h : decode (eventWord (.query id en probe t) s) = .ok i) : i.isQuery = true := by
  rw [decode_query_eventWord, Except.ok.injEq] at h
  subst h
  split_ifs <;> rfl

/-- R65: a `CONSUME` selects a `CONSUME` operation. -/
theorem decode_consume_isConsume {t : Nat} {s : State} {i : Instr}
    (h : decode (eventWord (.consume t) s) = .ok i) : i.isConsume = true := by
  rw [decode_consume_eventWord, Except.ok.injEq] at h
  subst h
  split_ifs <;> rfl

section
variable {s s' : State} {rest : List Event} {t : Nat}

theorem eq_of_step_next_of_nil (hin : s.inbox = []) (h : step s = .next s') : s' = s := by
  rw [step_of_inbox_nil hin, Host.Outcome.next.injEq] at h
  exact h.symm

/-- R111 (a): a `CONFIGURE` has its effect only before the record exists. -/
theorem step_configure_admits {id dataPin clockPin g : Nat} {inv : Int}
    (hin : s.inbox = .configure id dataPin clockPin g inv t :: rest) (h : step s = .next s') :
    s.configureAdmits dataPin clockPin g inv t := by
  obtain ⟨i, hd, hx⟩ := exec_of_step_next hin h
  cases hd
  exact (exec_configure_next_iff.mp hx).1

theorem step_query_devExists {id : Nat} {en : Bool} {probe : Option Nat}
    (hin : s.inbox = .query id en probe t :: rest) (h : step s = .next s') : s.devExists = true := by
  obtain ⟨i, hd, hx⟩ := exec_of_step_next hin h
  exact (exec_query_next (decode_query_isQuery hd) hx).1

/-- R26's task column, of the step of a `CONSUME`. -/
theorem step_consume_next (hin : s.inbox = .consume t :: rest) (h : step s = .next s') :
    s.devExists = true ∧ ∃ last os draws, s' = { s with
      inbox := rest
      lastTime := last
      pending := false
      outbox := s.outbox ++ os
      draws := draws } := by
  obtain ⟨i, hd, hx⟩ := exec_of_step_next hin h
  obtain ⟨hex, os, draws, -, hs'⟩ := exec_consume_next (decode_consume_isConsume hd) hx
  exact ⟨hex, _, os, draws, hs'⟩

/-- R122, R123: what a `CONSUME` that finds the notifier set emits. -/
theorem step_consume_pending_outbox (hin : s.inbox = .consume t :: rest) (hp : s.pending = true)
    (h : step s = .next s') :
    s'.outbox = s.outbox ++ s.samples s.timestamp s.reportedResult ++
      [.stateReport s.id s.timestamp s.reportedResult] := by
  obtain ⟨i, hd, hx⟩ := exec_of_step_next hin h
  rw [decode_consume_eventWord, Except.ok.injEq] at hd
  subst hd
  rw [if_pos hp] at hx
  split_ifs at hx with hprobe
  · obtain ⟨-, rfl⟩ := exec_consumeRpt_next_iff.mp hx
    rw [samples_of_none (s := s) _ _ hprobe, List.append_nil]
    rfl
  · obtain ⟨-, rfl⟩ := exec_consumePrb_next_iff.mp hx
    rw [sample_eq_append]
    rfl

end

/-! ### What a `TICK` does, in the cases of R64 -/

/-- The accumulator after the falling half-cycle `pi`: `d` is captured inside the data window (R84, R85, R90); an extra
pulse captures nothing (R86, R87, R89). -/
def afterFall (sa : Word) (pi : Nat) (d : Level) : Word := if pi < 48 then captureInto sa pi d else sa

/-- A falling half-cycle, in the data window or after it. -/
def State.fall (d : Level) (s : State) : State :=
  (s.setAccumulator (afterFall s.shiftAccumulator s.pulseIndex d)).halfCycle false

theorem fall_of_lt {d : Level} {s : State} (h : s.pulseIndex < 48) :
    s.fall d = (s.capture d).halfCycle false := by
  simp [State.fall, afterFall, h]

theorem fall_of_not_lt {d : Level} {s : State} (h : ¬ s.pulseIndex < 48) :
    s.fall d = s.halfCycle false := by
  simp [State.fall, afterFall, h, State.setAccumulator]

theorem fall_eq (d : Level) (s : State) :
    s.fall d = { s with
      shiftAccumulator := afterFall s.shiftAccumulator s.pulseIndex d
      clockLine := false
      pulseIndex := s.pulseIndex + 1 } := rfl

/-- R85, R87, R89, R90 before the schedule decision: the frame's last half-cycle and the suffix of R88. -/
theorem fall_complete_eq (d : Level) (s : State) :
    (s.fall d).complete = { s with
      clockLine := false
      latestResult := some (assemble (afterFall s.shiftAccumulator s.pulseIndex d) s.invert)
      pending := true
      pulseIndex := 0
      shiftAccumulator := 0 } := by
  rw [fall_eq]
  rfl

/-- R64 with R81 to R90: the state after an admitted `TICK` at `t` that samples `d`. -/
inductive State.TickResult (d : Level) (t : Nat) (s : State) : State → Prop
  /-- R81: the peer is not ready. -/
  | retry (hpi : s.pulseIndex = 0) (hd : d = true) :
      TickResult d t s ((s.seen t).reschedule (t + s.params.tRetry))
  /-- R82, R83: a rising half-cycle, the first one when the peer is ready. -/
  | rise (hpi : s.pulseIndex % 2 = 0) (hd : s.pulseIndex = 0 → d = false) :
      TickResult d t s (((s.seen t).halfCycle true).reschedule (t + s.params.tEdge))
  /-- R84, R86: a falling half-cycle that is not the frame's last. -/
  | fall (hpi : s.pulseIndex % 2 = 1) (hlast : s.pulseIndex + 1 ≠ 48 + 2 * s.gainCode) :
      TickResult d t s (((s.seen t).fall d).reschedule (t + s.params.tEdge))
  /-- R85, R87: the frame completes and another follows. -/
  | endr (hpi : s.pulseIndex % 2 = 1) (hlast : s.pulseIndex + 1 = 48 + 2 * s.gainCode)
      (hen : s.enabled = true) :
      TickResult d t s (((s.seen t).fall d).complete.reschedule (t + s.params.tSample))
  /-- R89, R90: the frame completes and the engine stops. -/
  | ends (hpi : s.pulseIndex % 2 = 1) (hlast : s.pulseIndex + 1 = 48 + 2 * s.gainCode)
      (hen : s.enabled = false) :
      TickResult d t s ((s.seen t).fall d).complete.stop

/-- The truth table of R64's rows over `z`, `o`, `w`, `l`, `d` and `e`; a counter that is 0 is even. -/
theorem decode_tick_of_flags {z o : Bool} (w l d e : Bool) (t : Nat) (hz : z = true → o = false) :
    decode (.tick (BitVec.ofBool z ++ BitVec.ofBool o ++ BitVec.ofBool w ++ BitVec.ofBool l ++
        BitVec.ofBool d ++ BitVec.ofBool e) t) = .ok (
      if z = true then (if d = true then .nrdy t else .start t)
      else if o = false then .rise t
      else if l = true then
        (if w = true then (if e = true then .fallcEndr d t else .fallcEnds d t)
          else (if e = true then .fallxEndr t else .fallxEnds t))
      else (if w = true then .fallc d t else .fallx t)) := by
  cases z with
  | true =>
    obtain rfl := hz rfl
    cases w <;> cases l <;> cases d <;> cases e <;> rfl
  | false => cases o <;> cases w <;> cases l <;> cases d <;> cases e <;> rfl

/-- R64, in the source's conditions. -/
theorem decode_tick_eventWord (drive : Drive) (t : Nat) (s : State) :
    decode (eventWord (.tick drive t) s) = .ok (
      if s.pulseIndex = 0 then (if portRead drive = true then .nrdy t else .start t)
      else if s.pulseIndex % 2 = 0 then .rise t
      else if s.pulseIndex + 1 = 48 + 2 * s.gainCode then
        (if s.pulseIndex < 48 then
          (if s.enabled = true then .fallcEndr (portRead drive) t else .fallcEnds (portRead drive) t)
          else (if s.enabled = true then .fallxEndr t else .fallxEnds t))
      else (if s.pulseIndex < 48 then .fallc (portRead drive) t else .fallx t)) := by
  have hz : flagZ s.pulseIndex = true → flagO s.pulseIndex = false := by
    simp +contextual [flagZ, flagO]
  refine (decode_tick_of_flags _ _ _ _ t hz).trans ?_
  simp [flagZ, flagO, flagW, flagL, frameLength]

section
variable {s s' : State} {i : Instr} {drive : Drive} {t : Nat} {rest : List Event}

/-- The operation that a `TICK` selects does what R64's case says. -/
theorem tickResult_of_exec (hd : decode (eventWord (.tick drive t) s) = .ok i)
    (hx : exec i s = .next s') : s.tickAdmits t ∧ s.TickResult (portRead drive) t s' := by
  rw [decode_tick_eventWord, Except.ok.injEq] at hd
  subst hd
  split_ifs at hx with hz hready ho hlast hw hen hen hw
  · obtain ⟨hadm, rfl⟩ := exec_nrdy_next_iff.mp hx
    exact ⟨hadm, .retry hz hready⟩
  · obtain ⟨hadm, rfl⟩ := exec_start_next_iff.mp hx
    have hone : 1 = (s.seen t).pulseIndex + 1 := by simp [hz]
    rw [hone]
    exact ⟨hadm, .rise (by simp [hz]) fun _ => Bool.eq_false_of_not_eq_true hready⟩
  · obtain ⟨hadm, rfl⟩ := exec_rise_next_iff.mp hx
    exact ⟨hadm, .rise ho (absurd · hz)⟩
  · obtain ⟨hadm, rfl⟩ := exec_fallcEndr_next_iff.mp hx
    rw [← fall_of_lt (s := s.seen t) hw]
    exact ⟨hadm, .endr (Nat.mod_two_ne_zero.mp ho) hlast hen⟩
  · obtain ⟨hadm, rfl⟩ := exec_fallcEnds_next_iff.mp hx
    rw [← fall_of_lt (s := s.seen t) hw]
    exact ⟨hadm, .ends (Nat.mod_two_ne_zero.mp ho) hlast (Bool.eq_false_of_not_eq_true hen)⟩
  · obtain ⟨hadm, rfl⟩ := exec_fallxEndr_next_iff.mp hx
    rw [← fall_of_not_lt (s := s.seen t) (d := portRead drive) hw]
    exact ⟨hadm, .endr (Nat.mod_two_ne_zero.mp ho) hlast hen⟩
  · obtain ⟨hadm, rfl⟩ := exec_fallxEnds_next_iff.mp hx
    rw [← fall_of_not_lt (s := s.seen t) (d := portRead drive) hw]
    exact ⟨hadm, .ends (Nat.mod_two_ne_zero.mp ho) hlast (Bool.eq_false_of_not_eq_true hen)⟩
  · obtain ⟨hadm, rfl⟩ := exec_fallc_next_iff.mp hx
    rw [← fall_of_lt (s := s.seen t) hw]
    exact ⟨hadm, .fall (Nat.mod_two_ne_zero.mp ho) hlast⟩
  · obtain ⟨hadm, rfl⟩ := exec_fallx_next_iff.mp hx
    rw [← fall_of_not_lt (s := s.seen t) (d := portRead drive) hw]
    exact ⟨hadm, .fall (Nat.mod_two_ne_zero.mp ho) hlast⟩

theorem step_tick_next (hin : s.inbox = .tick drive t :: rest) (h : step s = .next s') :
    s.tickAdmits t ∧ { s with inbox := rest }.TickResult (portRead drive) t s' := by
  obtain ⟨i, hd, hx⟩ := exec_of_step_next hin h
  exact tickResult_of_exec hd hx

theorem completesNext_iff_of_tick (hin : s.inbox = .tick drive t :: rest) :
    s.completesNext = true ↔ s.pulseIndex % 2 = 1 ∧ s.pulseIndex + 1 = 48 + 2 * s.gainCode := by
  simp [State.completesNext, hin]

end

section
variable {s s' : State} {d : Level} {drive : Drive} {t : Nat} {rest : List Event}

/-- R12, R24 (a), (c): a half-cycle counts at most one and keeps the result; only the last one of a frame completes. -/
theorem State.TickResult.progress (hres : s.TickResult d t s') :
    (s'.latestResult = s.latestResult ∧
      (s'.pulseIndex = s.pulseIndex ∨ s'.pulseIndex = s.pulseIndex + 1)) ∨
    ((s.pulseIndex % 2 = 1 ∧ s.pulseIndex + 1 = 48 + 2 * s.gainCode) ∧
      s'.pending = true ∧ s'.pulseIndex = 0 ∧ s'.shiftAccumulator = 0) := by
  cases hres with
  | retry => exact .inl ⟨rfl, .inl rfl⟩
  | rise => exact .inl ⟨rfl, .inr rfl⟩
  | fall => exact .inl ⟨rfl, .inr rfl⟩
  | endr hpi hlast => exact .inr ⟨⟨hpi, hlast⟩, by simp⟩
  | ends hpi hlast => exact .inr ⟨⟨hpi, hlast⟩, by simp⟩

theorem step_tick_progress (hin : s.inbox = .tick drive t :: rest) (h : step s = .next s') :
    (s'.latestResult = s.latestResult ∧
      (s'.pulseIndex = s.pulseIndex ∨ s'.pulseIndex = s.pulseIndex + 1)) ∨
    (s.completesNext = true ∧ s'.pending = true ∧ s'.pulseIndex = 0 ∧ s'.shiftAccumulator = 0) :=
  (step_tick_next hin h).2.progress.imp_right (And.imp_left (completesNext_iff_of_tick hin).mpr)

end

/-! ### The accumulator and the result (R24 (f), R13) -/

theorem levelWord_shift_mod {k p : Nat} (d : Level) (hkp : k ≤ p) (hk : k ≤ 32) :
    (levelWord d <<< p).toNat % 2 ^ k = 0 := by
  rw [BitVec.toNat_shiftLeft, Nat.shiftLeft_eq, Nat.mod_mod_of_dvd _ (Nat.pow_dvd_pow 2 hk)]
  exact Nat.mod_eq_zero_of_dvd ((Nat.pow_dvd_pow 2 hkp).mul_left _)

/-- A capture leaves the bits below its position as they are (R105). -/
theorem captureInto_mod {sa : Word} {pi k : Nat} (d : Level) (hk : k ≤ capturePosition pi) :
    (captureInto sa pi d).toNat % 2 ^ k = sa.toNat % 2 ^ k := by
  have hk' : k ≤ 32 := hk.trans (by unfold capturePosition; omega)
  rw [captureInto, BitVec.toNat_or, Nat.or_mod_two_pow, levelWord_shift_mod d hk hk', Nat.or_zero]

/-- R24 (f) over a falling half-cycle: one bit fewer is known to be 0, down to the eight that no capture reaches. -/
theorem afterFall_mod {sa : Word} {pi : Nat} (d : Level) (hodd : pi % 2 = 1)
    (h : sa.toNat % 2 ^ (32 - min (pi / 2) 24) = 0) :
    (afterFall sa pi d).toNat % 2 ^ (32 - min ((pi + 1) / 2) 24) = 0 := by
  have hlow : sa.toNat % 2 ^ (32 - min ((pi + 1) / 2) 24) = 0 :=
    Nat.mod_eq_zero_of_dvd ((Nat.pow_dvd_pow 2 (by omega)).trans (Nat.dvd_of_mod_eq_zero h))
  unfold afterFall
  split
  · rw [captureInto_mod d (by unfold capturePosition; omega), hlow]
  · exact hlow

/-- R102, R103: the result is the signed field of the accumulator times the multiplier. -/
theorem assemble_toInt (sa : Word) (inv : Invert) :
    (assemble sa inv).toInt = sa.toInt / 256 * inv.toInt := by
  have hlo := BitVec.le_toInt sa
  have hhi := BitVec.toInt_lt (x := sa)
  have hshift : (sa.sshiftRight 8).toInt = sa.toInt / 256 := by
    rw [BitVec.toInt_sshiftRight, Int.shiftRight_eq_div_pow]
    rfl
  have hword : inv.toWord.toInt = inv.toInt := by cases inv <;> rfl
  rw [assemble, BitVec.toInt_mul, hshift, hword]
  cases inv <;> simp only [Invert.toInt] <;> exact Int.bmod_eq_of_le (by omega) (by omega)

/-- R13, R104. -/
theorem assemble_range (sa : Word) (inv : Invert) :
    -8388608 ≤ (assemble sa inv).toInt ∧ (assemble sa inv).toInt ≤ 8388608 := by
  have hlo := BitVec.le_toInt sa
  have hhi := BitVec.toInt_lt (x := sa)
  rw [assemble_toInt]
  cases inv <;> simp only [Invert.toInt] <;> omega

/-! ### Each part of an event keeps what R24 says of a created record -/

section
variable {s : State}

theorem State.Good.taken (h : s.Good) (rest : List Event) : State.Good { s with inbox := rest } :=
  { h with }

theorem State.Good.seen (h : s.Good) (t : Nat) : (s.seen t).Good :=
  { h with }

theorem State.Good.halfCycle_true (h : s.Good) (harmed : s.armed = true)
    (hwake : s.nextWakeTime ≠ none) (heven : s.pulseIndex % 2 = 0) : (s.halfCycle true).Good :=
  { h with
    count := by
      have := h.count
      simp
      omega
    accumulator := by
      have hhalf : (s.pulseIndex + 1) / 2 = s.pulseIndex / 2 := by omega
      simpa [hhalf] using h.accumulator
    clock := fun _ => by
      have hodd : (s.pulseIndex + 1) % 2 = 1 := by omega
      simp [hodd]
    fresh := fun hnone => absurd hnone hwake
    idle := fun hidle => by simp [harmed] at hidle }

theorem State.Good.fall (h : s.Good) (d : Level) (harmed : s.armed = true)
    (hwake : s.nextWakeTime ≠ none) (hodd : s.pulseIndex % 2 = 1)
    (hlast : s.pulseIndex + 1 ≠ 48 + 2 * s.gainCode) : (s.fall d).Good := by
  rw [fall_eq]
  exact
    { h with
      count := Nat.lt_of_le_of_ne h.count hlast
      accumulator := afterFall_mod d hodd h.accumulator
      clock := fun _ => by
        have heven : (s.pulseIndex + 1) % 2 = 0 := by omega
        simp [heven]
      fresh := fun hnone => absurd hnone hwake
      idle := fun hidle => by simp [harmed] at hidle }

/-- R88: whatever the last falling half-cycle captured, the completion leaves a frame boundary. -/
theorem State.Good.fall_complete (h : s.Good) (d : Level) (hwake : s.nextWakeTime ≠ none) :
    (s.fall d).complete.Good := by
  rw [fall_complete_eq]
  exact
    { h with
      count := by simp
      accumulator := by simp
      clock := fun _ => by simp
      fresh := fun hnone => absurd hnone hwake
      idle := fun _ => ⟨rfl, rfl⟩
      result := nofun
      range := by simp [assemble_range] }

theorem State.Good.reschedule (h : s.Good) (hwake : s.nextWakeTime ≠ none) (due : Nat) :
    (s.reschedule due).Good :=
  { h with
    clock := fun _ => h.clock hwake
    fresh := nofun
    idle := nofun
    enabledArmed := fun _ => rfl }

/-- R89: a stop is at a frame boundary and of a device that is not enabled. -/
theorem State.Good.stop (h : s.Good) (hwake : s.nextWakeTime ≠ none) (hpi : s.pulseIndex = 0)
    (hsa : s.shiftAccumulator = 0) (hen : s.enabled = false) : s.stop.Good :=
  { h with
    fresh := fun hnone => absurd hnone hwake
    idle := fun _ => ⟨hpi, hsa⟩
    enabledArmed := fun hon => by simp [hen] at hon }

/-- R112 without a restart: only an engine that is armed may be enabled. -/
theorem State.Good.setRequest (h : s.Good) {en : Bool} (probe : Option Nat)
    (hen : en = true → s.armed = true) : (s.setRequest en probe).Good :=
  { h with
    identifiers := ⟨h.identifiers.1, fun _ => lt_of_map_identifier⟩
    enabledArmed := hen }

/-- R113: arming restarts the frame. -/
theorem State.Good.setRequest_arm (h : s.Good) (en : Bool) (probe : Option Nat) (t : Nat) :
    ((s.setRequest en probe).arm t).Good := by
  rw [setRequest_arm_eq]
  exact
    { h with
      identifiers := ⟨h.identifiers.1, fun _ => lt_of_map_identifier⟩
      count := by simp
      accumulator := by simp
      clock := fun _ => by simp
      fresh := nofun
      idle := nofun
      enabledArmed := fun _ => rfl }

/-- R120: nothing that R24 speaks of changes but the notifier, which is clear. -/
theorem State.Good.consumed (h : s.Good) (rest : List Event) (last : Nat) (os : List Output)
    (draws : Nat) :
    State.Good { s with
      inbox := rest
      lastTime := last
      pending := false
      outbox := os
      draws := draws } :=
  { h with result := nofun }

/-- R110: a legal request creates a record with what R24 says before the first `QUERY.ARM`. -/
theorem good_configured {id dataPin clockPin g : Nat} {inv : Int} (hgain : s.params.gainLegal g)
    (hpins : s.params.pinsLegal dataPin clockPin) :
    (s.configured id dataPin clockPin g inv).Good where
  gain := hgain
  pins := hpins
  identifiers := ⟨identifier_lt _ _, nofun⟩
  lines := ⟨rfl, rfl⟩
  count := by simp [State.configured]
  accumulator := by simp [State.configured]
  clock := fun hwake => absurd rfl hwake
  fresh := fun _ => ⟨rfl, rfl, rfl, rfl⟩
  idle := fun _ => ⟨rfl, rfl⟩
  result := nofun
  range := nofun
  enabledArmed := nofun

end

/-! ### Every event keeps it -/

section
variable {s s' : State} {rest : List Event} {t : Nat}

/-- From an armed state each case of R64 keeps what R24 says. -/
theorem State.TickResult.good {d : Level} (hres : s.TickResult d t s') (hgood : s.Good)
    (harmed : s.armed = true) (hwake : s.nextWakeTime ≠ none) : s'.Good := by
  have hg := hgood.seen t
  cases hres with
  | retry => exact hg.reschedule hwake _
  | rise hpi => exact (hg.halfCycle_true harmed hwake hpi).reschedule hwake _
  | fall hpi hlast => exact (hg.fall d harmed hwake hpi hlast).reschedule hwake _
  | endr => exact (hg.fall_complete d hwake).reschedule (by simp [State.fall, hwake]) _
  | ends _ _ hen =>
    exact (hg.fall_complete d hwake).stop (by simp [State.fall, hwake]) (by simp) (by simp)
      (by simp [State.fall, hen])

theorem step_tick_good {drive : Drive} (hgood : s.Good) (hin : s.inbox = .tick drive t :: rest)
    (h : step s = .next s') : s'.Good := by
  obtain ⟨⟨-, harmed, ⟨n, hn, -⟩, -⟩, hres⟩ := step_tick_next hin h
  exact hres.good (hgood.taken rest) harmed (by simp [hn])

theorem step_query_good {id : Nat} {en : Bool} {probe : Option Nat} (hgood : s.Good)
    (hin : s.inbox = .query id en probe t :: rest) (h : step s = .next s') : s'.Good := by
  have hg := (hgood.taken rest).seen t
  rw [step_query_next hin h]
  split_ifs with harm
  · exact hg.setRequest_arm en probe t
  · refine hg.setRequest probe fun hon => hgood.enabledArmed ?_
    by_contra hoff
    exact harm ⟨hon, .inl (Bool.eq_false_of_not_eq_true hoff)⟩

theorem step_consume_good (hgood : s.Good) (hin : s.inbox = .consume t :: rest)
    (h : step s = .next s') : s'.Good := by
  obtain ⟨-, last, os, draws, rfl⟩ := step_consume_next hin h
  exact hgood.consumed rest last (s.outbox ++ os) draws

/-- Whatever the event, a step from a state with R24's invariants leaves a record that has them. -/
theorem step_good {e : Event} (hs : s.devExists = true → s.Good) (hin : s.inbox = e :: rest)
    (h : step s = .next s') : s'.Good := by
  cases e with
  | tick drive t => exact step_tick_good (hs (step_tick_next hin h).1.1) hin h
  | configure id dataPin clockPin g inv t =>
    obtain ⟨-, hgain, -, hpins, -⟩ := step_configure_admits hin h
    rw [step_configure_next hin h]
    exact good_configured hgain hpins
  | query id en probe t => exact step_query_good (hs (step_query_devExists hin h)) hin h
  | consume t => exact step_consume_good (hs (step_consume_next hin h).1) hin h

end

/-! ### The configuration (R10, R14, R15, R21) -/

section
variable {s s' : State}

/-- A step keeps the parameters, and a created record with its configuration. -/
theorem step_configuration (h : step s = .next s') :
    s'.params = s.params ∧ (s.devExists = true → s.SameConfiguration s') := by
  cases hin : s.inbox with
  | nil =>
    obtain rfl := eq_of_step_next_of_nil hin h
    exact ⟨rfl, fun _ => by constructor <;> rfl⟩
  | cons e rest =>
    cases e with
    | tick drive t =>
      obtain ⟨i, hd, hx⟩ := exec_of_step_next hin h
      have hframe := exec_tick_engineFrame (decode_tick_isTick hd).1 hx
      exact ⟨hframe.params, fun _ => { hframe with }⟩
    | configure id dataPin clockPin g inv t =>
      obtain ⟨habsent, -⟩ := step_configure_admits hin h
      rw [step_configure_next hin h]
      exact ⟨rfl, fun hex => by simp [habsent] at hex⟩
    | query id en probe t =>
      rw [step_query_next hin h]
      split_ifs
      · exact ⟨by simp, fun _ => by constructor <;> simp⟩
      · exact ⟨by simp, fun _ => by constructor <;> simp⟩
    | consume t =>
      obtain ⟨-, last, os, draws, rfl⟩ := step_consume_next hin h
      exact ⟨rfl, fun _ => by constructor <;> rfl⟩

end

/-! ### The obligations -/

/-- Settles O30: each event keeps what R24 says of the record, and the parameters do not change. -/
theorem everyStepKeepsTheInvariants : Obligations.EveryStepKeepsTheInvariants := by
  intro s s' ⟨hlegal, hgood⟩ h
  refine ⟨(step_configuration h).1 ▸ hlegal, ?_⟩
  cases hin : s.inbox with
  | nil =>
    obtain rfl := eq_of_step_next_of_nil hin h
    exact hgood
  | cons e rest => exact fun _ => step_good hgood hin h

/-- Settles O29: the delays of R5's nominal values are positive, and there is no record. -/
theorem resetMeetsTheInvariants : Obligations.ResetMeetsTheInvariants :=
  ⟨by decide, nofun⟩

/-- Settles O31. -/
theorem recordIsNeverDestroyedOrReconfigured : Obligations.RecordIsNeverDestroyedOrReconfigured := by
  intro s s' h
  obtain ⟨hparams, hkeeps⟩ := step_configuration h
  refine ⟨hparams, fun hex => ?_⟩
  have hc := hkeeps hex
  exact ⟨hc.devExists.trans hex, hc.id, hc.gainCode, hc.invert, hc.dataPin, hc.clockPin,
    hc.dataLineMode, hc.clockLineMode⟩

/-- Settles O33: the engine's frame, then the one decision. -/
theorem tickTouchesOnlyTheEnginesState : Obligations.TickTouchesOnlyTheEnginesState := by
  intro i s s' hi h
  have hf := exec_tick_engineFrame hi h
  refine ⟨hf.enabled, hf.gainCode, hf.invert, hf.id, hf.probeRef, hf.devExists, hf.params, hf.dataPin,
    hf.clockPin, hf.dataLineMode, hf.clockLineMode, hf.inbox, hf.draws, hf.pending, ?_⟩
  obtain ⟨x, hx, ⟨due, rfl⟩ | rfl⟩ := exec_tick_undecided hi h
  · exact ⟨.reschedule due, hx.outbox ▸ rfl, .inl ⟨rfl, due, rfl, rfl⟩⟩
  · exact ⟨.stop, hx.outbox ▸ rfl, .inr ⟨rfl, hx.nextWakeTime, rfl⟩⟩

/-- Settles O34: a `QUERY` writes the request, and what else it does is R113. -/
theorem queryTouchesOnlyTheHostsState : Obligations.QueryTouchesOnlyTheHostsState := by
  intro i s s' hi h
  obtain ⟨-, en, probe, rfl | ⟨rfl, rfl⟩⟩ := exec_query_next hi h
  · simp
  · simp

/-- Settles O35. -/
theorem consumeTouchesOnlyTheNotifier : Obligations.ConsumeTouchesOnlyTheNotifier := by
  intro i s s' hi h
  obtain ⟨-, os, draws, hos, rfl⟩ := exec_consume_next hi h
  exact ⟨rfl, rfl, os, rfl, hos⟩

/-- Settles O41: of all events only a completing `TICK` writes the result, and a `CONFIGURE` has no effect here. -/
theorem latestResultWrittenOnlyByCompletions : Obligations.LatestResultWrittenOnlyByCompletions := by
  intro s s' h hex hchanged
  cases hin : s.inbox with
  | nil =>
    obtain rfl := eq_of_step_next_of_nil hin h
    exact absurd rfl hchanged
  | cons e rest =>
    cases e with
    | tick drive t =>
      obtain ⟨hkept, -⟩ | hcompletes := step_tick_progress hin h
      · exact absurd hkept hchanged
      · exact hcompletes
    | configure id dataPin clockPin g inv t =>
      obtain ⟨habsent, -⟩ := step_configure_admits hin h
      simp [hex] at habsent
    | query id en probe t =>
      refine absurd ?_ hchanged
      rw [step_query_next hin h]
      split_ifs
      · simp
      · simp
    | consume t =>
      obtain ⟨-, last, os, draws, rfl⟩ := step_consume_next hin h
      exact absurd rfl hchanged

/-- Settles O42, by the kind of event. -/
theorem counterResetsOnlyAtFrameBoundaries : Obligations.CounterResetsOnlyAtFrameBoundaries := by
  intro s s' e rest hin h
  cases e with
  | tick drive t =>
    obtain ⟨-, hkept | hadvanced⟩ | ⟨hcompletes, -, hzero, -⟩ := step_tick_progress hin h
    · exact .inl hkept
    · exact .inr (.inl ⟨hadvanced, drive, t, rfl⟩)
    · exact .inr (.inr ⟨hzero, .inl hcompletes⟩)
  | configure id dataPin clockPin g inv t =>
    obtain rfl := step_configure_next hin h
    exact .inr (.inr ⟨rfl, .inr (.inr ⟨id, dataPin, clockPin, g, inv, t, rfl⟩)⟩)
  | query id en probe t =>
    rw [step_query_next hin h]
    split_ifs with harm
    · obtain ⟨rfl, -⟩ := harm
      exact .inr (.inr ⟨by simp, .inr (.inl ⟨id, probe, t, rfl⟩)⟩)
    · exact .inl rfl
  | consume t =>
    obtain ⟨-, last, os, draws, rfl⟩ := step_consume_next hin h
    exact .inl rfl

/-- Settles O51: by R24 (i) a set notifier has a result to report. -/
theorem reportsCarryTheLatestResult : Obligations.ReportsCarryTheLatestResult := by
  intro s s' t rest ⟨_, hgood⟩ hin hpending h
  have hout := step_consume_pending_outbox hin hpending h
  obtain ⟨hex, last, os, draws, rfl⟩ := step_consume_next hin h
  obtain ⟨v, hv⟩ := Option.ne_none_iff_exists'.mp ((hgood hex).result hpending)
  rw [reportedResult_of_some hv] at hout
  exact ⟨v, s.timestamp, hv, hv, hout⟩

/-- Settles O48: the two drives read the same level (R22, D2), so they present the same word. -/
theorem undrivenLineReadsLow : Obligations.UndrivenLineReadsLow := by
  intro s t rest
  have hread : portRead .undriven = portRead .low := rfl
  simp only [step, eventWord, hread]

end Sys2Proof.Machine

/-! ## Encoding (`30_encoding.md`): what a word fixes, and the bits of a frame in progress

First the table's rows and the encoder, then the selector of a `TICK` bit by bit and a word placed for the next step,
then a frame half-cycle by half-cycle. -/

namespace Sys2Proof

/-! ### Words and the rows they match (R64, R65) -/

section
variable {n : Nat} {α : Type} {sel : BitVec n} {r : Row n α}

theorem Row.hits_iff : r.hits sel = true ↔ sel &&& r.mask = r.value := by
  simp [Row.hits]

/-- A word that matches a row has the row's value on the bits of the row's mask. -/
theorem Row.and_mask_of_hits (h : r.hits sel = true) : sel &&& r.mask = r.value &&& r.mask := by
  rw [← Row.hits_iff.mp h, BitVec.and_assoc, BitVec.and_self]

/-- The same on words that are compared in a wider selector, as `EventWord.agreeOn` compares those of two bits. -/
theorem Row.setWidth_and_mask_of_hits {m : Nat} (h : r.hits sel = true) :
    sel.setWidth m &&& r.mask.setWidth m = r.value.setWidth m &&& r.mask.setWidth m := by
  rw [← BitVec.setWidth_and, ← BitVec.setWidth_and, Row.and_mask_of_hits h]

end

theorem selSample_getLsbD_one (sel : BitVec 6) : selSample (sel.getLsbD 1) = sel &&& 0b000010 := by
  revert sel
  decide

/-- On the mask and the sample's bit, a word that matches is the row's value with that sample. -/
theorem and_sample_of_hits {α : Type} {sel : BitVec 6} {r : Row 6 α} (h : r.hits sel = true) :
    sel &&& (r.mask ||| 0b000010) =
      (r.value ||| selSample (sel.getLsbD 1)) &&& (r.mask ||| 0b000010) := by
  rw [selSample_getLsbD_one, ← Row.hits_iff.mp h]
  ext i
  simp only [BitVec.getElem_and, BitVec.getElem_or]
  cases sel[i] <;> cases r.mask[i] <;> simp

end Sys2Proof

namespace Sys2Proof.Machine

theorem exists_row_of_lookup_map {n : Nat} {α β : Type} {rows : List (Row n α)} {sel : BitVec n} {f : α → β}
    {b : β} (h : (lookup rows sel).map f = .ok b) : ∃ r ∈ rows, r.hits sel = true ∧ f (r.build sel) = b := by
  cases hl : lookup rows sel with
  | error x => rw [hl] at h; cases h
  | ok a =>
    rw [hl] at h
    cases h
    obtain ⟨r, hr, hhits, rfl⟩ := exists_row_of_lookup hl
    exact ⟨r, hr, hhits, rfl⟩

theorem agreeOn_tick {used a b : BitVec 6} {t : Nat} (h : a &&& used = b &&& used) :
    EventWord.agreeOn used (.tick a t) (.tick b t) = true := by
  simp [EventWord.agreeOn, h]

theorem agreeOn_query {used : BitVec 6} {a b : BitVec 2} {id t : Nat} {probe : Option Nat}
    (h : a.setWidth 6 &&& used = b.setWidth 6 &&& used) :
    EventWord.agreeOn used (.query a id probe t) (.query b id probe t) = true := by
  simp [EventWord.agreeOn, h]

theorem agreeOn_consume {used : BitVec 6} {a b : BitVec 2} {t : Nat}
    (h : a.setWidth 6 &&& used = b.setWidth 6 &&& used) :
    EventWord.agreeOn used (.consume a t) (.consume b t) = true := by
  simp [EventWord.agreeOn, h]

/-- R64: a `TICK` word agrees with the word of the operation that a row it matches builds. -/
theorem agreeOn_of_tick_row {sel : BitVec 6} {t : Nat} {r : Row 6 (Nat → Instr)} (hr : r ∈ tickRows)
    (h : r.hits sel = true) :
    EventWord.agreeOn (r.build sel t).usedBits (.tick sel t) (encode (r.build sel t)) = true := by
  have hmask := Row.and_mask_of_hits h
  have hsample := and_sample_of_hits h
  simp only [tickRows, List.mem_cons, List.not_mem_nil, or_false] at hr
  obtain rfl | rfl | rfl | rfl | rfl | rfl | rfl | rfl | rfl := hr
  · exact agreeOn_tick hmask
  · exact agreeOn_tick hmask
  · exact agreeOn_tick hmask
  · exact agreeOn_tick hsample
  · exact agreeOn_tick hmask
  · exact agreeOn_tick hsample
  · exact agreeOn_tick hsample
  · exact agreeOn_tick hmask
  · exact agreeOn_tick hmask

/-- R65, the QRY rows. -/
theorem agreeOn_of_query_row {sel : BitVec 2} {id t : Nat} {probe : Option Nat}
    {r : Row 2 (Nat → Option Nat → Nat → Instr)} (hr : r ∈ queryRows) (h : r.hits sel = true) :
    EventWord.agreeOn (r.build sel id probe t).usedBits (.query sel id probe t)
      (encode (r.build sel id probe t)) = true := by
  have hmask := Row.setWidth_and_mask_of_hits (m := 6) h
  simp only [queryRows, List.mem_cons, List.not_mem_nil, or_false] at hr
  obtain rfl | rfl | rfl := hr
  · exact agreeOn_query hmask
  · exact agreeOn_query hmask
  · exact agreeOn_query hmask

/-- R65, the CNS rows. -/
theorem agreeOn_of_consume_row {sel : BitVec 2} {t : Nat} {r : Row 2 (Nat → Instr)} (hr : r ∈ consumeRows)
    (h : r.hits sel = true) :
    EventWord.agreeOn (r.build sel t).usedBits (.consume sel t) (encode (r.build sel t)) = true := by
  have hmask := Row.setWidth_and_mask_of_hits (m := 6) h
  simp only [consumeRows, List.mem_cons, List.not_mem_nil, or_false] at hr
  obtain rfl | rfl | rfl := hr
  · exact agreeOn_consume hmask
  · exact agreeOn_consume hmask
  · exact agreeOn_consume hmask

theorem decode_encode (i : Instr) : decode (encode i) = .ok i := by
  cases i with
  | nrdy t => exact Laws.RoundTrip.nrdy t
  | start t => exact Laws.RoundTrip.start t
  | rise t => exact Laws.RoundTrip.rise t
  | fallc d t => exact Laws.RoundTrip.fallc d t
  | fallx t => exact Laws.RoundTrip.fallx t
  | fallcEndr d t => exact Laws.RoundTrip.fallcEndr d t
  | fallcEnds d t => exact Laws.RoundTrip.fallcEnds d t
  | fallxEndr t => exact Laws.RoundTrip.fallxEndr t
  | fallxEnds t => exact Laws.RoundTrip.fallxEnds t
  | configure id dataPin clockPin g inv t => exact Laws.RoundTrip.configure id dataPin clockPin g inv t
  | queryArm id probe t => exact Laws.RoundTrip.queryArm id probe t
  | queryHold id probe t => exact Laws.RoundTrip.queryHold id probe t
  | queryDis id probe t => exact Laws.RoundTrip.queryDis id probe t
  | consumeIdle t => exact Laws.RoundTrip.consumeIdle t
  | consumeRpt t => exact Laws.RoundTrip.consumeRpt t
  | consumePrb t => exact Laws.RoundTrip.consumePrb t

theorem agreeOn_of_decode {w : EventWord} {i : Instr} (h : decode w = .ok i) :
    w.agreeOn i.usedBits (encode i) = true := by
  cases w with
  | tick sel t =>
    have hmap : (lookup tickRows sel).map (· t) = .ok i := h
    obtain ⟨r, hr, hhits, rfl⟩ := exists_row_of_lookup_map hmap
    exact agreeOn_of_tick_row hr hhits
  | configure id dataPin clockPin g inv t =>
    cases h
    simp [EventWord.agreeOn, encode]
  | query sel id probe t =>
    have hmap : (lookup queryRows sel).map (· id probe t) = .ok i := h
    obtain ⟨r, hr, hhits, rfl⟩ := exists_row_of_lookup_map hmap
    exact agreeOn_of_query_row hr hhits
  | consume sel t =>
    have hmap : (lookup consumeRows sel).map (· t) = .ok i := h
    obtain ⟨r, hr, hhits, rfl⟩ := exists_row_of_lookup_map hmap
    exact agreeOn_of_consume_row hr hhits

/-! ### The selector of a `TICK`, bit by bit (R64) -/

/-- R64: `SEL` from its six conditions. -/
def selector (z o w l d e : Bool) : BitVec 6 :=
  BitVec.ofBool z ++ BitVec.ofBool o ++ BitVec.ofBool w ++ BitVec.ofBool l ++ BitVec.ofBool d ++ BitVec.ofBool e

theorem tickSelector_eq (pi g : Nat) (d e : Bool) :
    tickSelector pi g d e = selector (flagZ pi) (flagO pi) (flagW pi) (flagL pi g) d e := rfl

theorem selector_getLsbD (z o w l d e : Bool) :
    (selector z o w l d e).getLsbD 5 = z ∧ (selector z o w l d e).getLsbD 4 = o ∧
    (selector z o w l d e).getLsbD 3 = w ∧ (selector z o w l d e).getLsbD 2 = l ∧
    (selector z o w l d e).getLsbD 1 = d ∧ (selector z o w l d e).getLsbD 0 = e := by
  revert z o w l d e
  decide

theorem exists_eq_selector (sel : BitVec 6) : ∃ z o w l d e, sel = selector z o w l d e := by
  revert sel
  decide

/-- R69: `z` with `o` matches two rows. -/
theorem decode_selector_z_o (w l d e : Bool) (t : Nat) :
    decode (.tick (selector true true w l d e) t) = .error .manyRows := by
  cases w <;> cases l <;> cases d <;> cases e <;> rfl

theorem portRead_eq (drive : Drive) : portRead drive = decide (drive = .high) := by
  cases drive <;> rfl

theorem portRead_ite (b : Bool) : portRead (if b = true then .high else .low) = b := by
  cases b <;> rfl

/-! ### A word placed for the next step (log 2, 3) -/

theorem stagedCount_selector (z o w l d e : Bool) (g : Nat) :
    stagedCount (selector z o w l d e) g =
      if z = true then (0, g)
      else if o = false then (if w = true then (2, g) else (48, max 1 g))
      else if w = true then (if l = true then (47, 0) else (1, g))
      else if l = true then (49, 1) else (49, 2) := by
  simp only [stagedCount, selector_getLsbD]

/-- The event that `stage` puts at the head of `inbox`. -/
def stagedEvent : EventWord → Event
  | .tick sel t => .tick (if sel.getLsbD 1 then .high else .low) t
  | .configure id dataPin clockPin g inv t => .configure id dataPin clockPin g inv t
  | .query qsel id probe t => .query id (qsel.getLsbD 1) probe t
  | .consume _ t => .consume t

theorem stage_inbox (ew : EventWord) (s : State) : (stage ew s).inbox = stagedEvent ew :: s.inbox := by
  cases ew <;> rfl

/-- The counter and the gain code staged for a `TICK` word select what the word itself selects, though not every bit of
it need be formed again: `z` goes before the others, and an even counter before `w` and `l` (R64). -/
theorem decode_tick_of_staged {sel : BitVec 6} {t : Nat} {i : Instr} (h : decode (.tick sel t) = .ok i)
    {g : Nat} {s : State} (hpi : s.pulseIndex = (stagedCount sel g).1)
    (hg : s.gainCode = (stagedCount sel g).2) (hen : s.enabled = sel.getLsbD 0) :
    decode (eventWord (.tick (if sel.getLsbD 1 then .high else .low) t) s) = .ok i := by
  obtain ⟨z, o, w, l, d, e, rfl⟩ := exists_eq_selector sel
  have hzo : z = true → o = false := by
    rintro rfl
    cases o with
    | false => rfl
    | true =>
      rw [decode_selector_z_o] at h
      cases h
  obtain ⟨-, -, -, -, hd, he⟩ := selector_getLsbD z o w l d e
  rw [stagedCount_selector] at hpi hg
  rw [he] at hen
  rw [hd, ← h, selector, decode_tick_of_flags w l d e t hzo, decode_tick_eventWord, portRead_ite, hpi, hg, hen]
  cases z with
  | true =>
    obtain rfl := hzo rfl
    simp
  | false =>
    cases o with
    | false => cases w <;> simp
    | true =>
      have hshort : 2 ≠ 48 + 2 * g := by omega
      cases w <;> cases l <;> simp [hshort]

theorem querySelector_getLsbD (qsel : BitVec 2) : querySelector (qsel.getLsbD 1) (qsel.getLsbD 0) = qsel := by
  revert qsel
  decide

/-- Only whether a probe is present counts. -/
theorem consumeSelector_getLsbD (csel : BitVec 2) (n : Nat) :
    consumeSelector (csel.getLsbD 1) (if csel.getLsbD 0 then some n else none) = csel := by
  rw [← querySelector_getLsbD csel]
  cases csel.getLsbD 0 <;> cases csel.getLsbD 1 <;> rfl

/-- The staged registers make the staged event select what the word selects. -/
theorem decode_stagedEvent {ew : EventWord} {i : Instr} (h : decode ew = .ok i) (s : State) (rest : List Event) :
    decode (eventWord (stagedEvent ew) { stage ew s with inbox := rest }) = .ok i := by
  cases ew with
  | tick sel t => exact decode_tick_of_staged h rfl rfl rfl
  | configure id dataPin clockPin g inv t => exact h
  | query qsel id probe t => rwa [← querySelector_getLsbD qsel] at h
  | consume csel t => rwa [← consumeSelector_getLsbD csel (s.probeRef.getD 0)] at h

theorem step_stage {ew : EventWord} {i : Instr} (h : decode ew = .ok i) (s : State) :
    step (stage ew s) = exec i { stage ew s with inbox := s.inbox } :=
  step_of_decode (stage_inbox ew s) (decode_stagedEvent h s s.inbox)

theorem exists_tableWord_of_decodeTableWord {nbits w : Nat} {i : Instr} (h : decodeTableWord nbits w = some i) :
    ∃ ew, tableWord nbits w = some ew ∧ decode ew = .ok i := by
  unfold decodeTableWord at h
  cases hew : tableWord nbits w with
  | none => simp [hew] at h
  | some ew =>
    rw [hew] at h
    refine ⟨ew, rfl, ?_⟩
    cases hd : decode ew with
    | ok j => simpa [hd, Except.toOption] using h
    | error x => simp [hd, Except.toOption] at h

/-! ### A half-cycle of a frame that neither retries nor completes -/

/-- The accumulator after the half-cycle `pi`: only a falling one can capture (R82 to R86). -/
def afterHalfCycle (sa : Word) (pi : Nat) (d : Level) : Word := if pi % 2 = 1 then afterFall sa pi d else sa

section
variable {s s' : State} {i : Instr} {d : Level} {drive : Drive} {t : Nat} {rest : List Event}

/-- R80: an operation of a `TICK` completes when its event is admitted. -/
theorem exec_tick_of_admits (hi : i.isTick = true) (h : s.tickAdmits i.time) : ∃ s', exec i s = .next s' := by
  cases i with
  | nrdy t => exact ⟨_, exec_nrdy_next_iff.mpr ⟨h, rfl⟩⟩
  | start t => exact ⟨_, exec_start_next_iff.mpr ⟨h, rfl⟩⟩
  | rise t => exact ⟨_, exec_rise_next_iff.mpr ⟨h, rfl⟩⟩
  | fallc d t => exact ⟨_, exec_fallc_next_iff.mpr ⟨h, rfl⟩⟩
  | fallx t => exact ⟨_, exec_fallx_next_iff.mpr ⟨h, rfl⟩⟩
  | fallcEndr d t => exact ⟨_, exec_fallcEndr_next_iff.mpr ⟨h, rfl⟩⟩
  | fallcEnds d t => exact ⟨_, exec_fallcEnds_next_iff.mpr ⟨h, rfl⟩⟩
  | fallxEndr t => exact ⟨_, exec_fallxEndr_next_iff.mpr ⟨h, rfl⟩⟩
  | fallxEnds t => exact ⟨_, exec_fallxEnds_next_iff.mpr ⟨h, rfl⟩⟩
  | _ => cases hi

/-- An admitted `TICK` has a next state, the one R64's case gives. -/
theorem step_tick_of_admits (hin : s.inbox = .tick drive t :: rest) (h : s.tickAdmits t) :
    ∃ s', step s = .next s' ∧ { s with inbox := rest }.TickResult (portRead drive) t s' := by
  obtain ⟨i, hd⟩ : ∃ i, decode (eventWord (.tick drive t) { s with inbox := rest }) = .ok i :=
    ⟨_, decode_tick_eventWord drive t _⟩
  obtain ⟨hi, rfl⟩ := decode_tick_isTick hd
  obtain ⟨s', hx⟩ := exec_tick_of_admits (s := { s with inbox := rest }) hi h
  exact ⟨s', (step_of_decode hin hd).trans hx, (tickResult_of_exec hd hx).2⟩

theorem State.TickResult.eq_halfCycle (hres : s.TickResult d t s')
    (hready : s.pulseIndex = 0 → d = false) (hlast : s.pulseIndex + 1 < 48 + 2 * s.gainCode) :
    s' = { s with
      pulseIndex := s.pulseIndex + 1
      clockLine := (s.pulseIndex + 1) % 2 == 1
      shiftAccumulator := afterHalfCycle s.shiftAccumulator s.pulseIndex d
      nextWakeTime := some (t + s.params.tEdge)
      armed := true
      lastTime := t
      outbox := s.outbox ++ [.reschedule (t + s.params.tEdge)] } := by
  cases hres with
  | retry hpi hd =>
    rw [hready hpi] at hd
    cases hd
  | rise hpi =>
    have hclock : (s.pulseIndex + 1) % 2 = 1 := by omega
    rw [afterHalfCycle, if_neg (by omega), hclock]
    rfl
  | fall hpi =>
    have hclock : (s.pulseIndex + 1) % 2 = 0 := by omega
    rw [afterHalfCycle, if_pos hpi, hclock, fall_eq]
    rfl
  | endr _ hend => exact absurd hend hlast.ne
  | ends _ hend => exact absurd hend hlast.ne

end

/-! ### The bits of a frame in progress (R101) -/

/-- The accumulator after the first `j` half-cycles of a frame. -/
def frameBits (drives : Nat → Drive) : Nat → Word
  | 0 => 0
  | j + 1 => afterHalfCycle (frameBits drives j) j (portRead (drives j))

theorem levelWord_getLsbD (d : Level) (b : Nat) : (levelWord d).getLsbD b = (decide (b = 0) && d) := by
  simp only [levelWord, BitVec.getLsbD_setWidth, BitVec.getLsbD_ofBool]
  by_cases hb : b = 0
  · simp [hb]
  · simp [hb]

/-- R101, R105: a capture sets the bit of its position and no other. -/
theorem captureInto_getLsbD {sa : Word} {pi b : Nat} {d : Level} (hb : b < 32) :
    (captureInto sa pi d).getLsbD b = (sa.getLsbD b || (decide (b = capturePosition pi) && d)) := by
  have hpos : b = capturePosition pi ↔ ¬ b < capturePosition pi ∧ b - capturePosition pi = 0 := by omega
  rw [captureInto, BitVec.getLsbD_or, BitVec.getLsbD_shiftLeft, levelWord_getLsbD]
  simp only [hpos, hb, decide_true, Bool.true_and, Bool.decide_and, decide_not, Bool.and_assoc]

/-- R101: the bits of the data window are those from 8 up, and bit `b` is captured at the falling half-cycle
`2 * (31 - b) + 1`. -/
theorem afterHalfCycle_getLsbD {sa : Word} {pi b : Nat} {d : Level} (hb : b < 32) :
    (afterHalfCycle sa pi d).getLsbD b =
      (sa.getLsbD b || (decide (8 ≤ b) && decide (pi = 2 * (31 - b) + 1) && d)) := by
  unfold afterHalfCycle afterFall
  split_ifs with hodd hwindow
  · have hcaptured : b = capturePosition pi ↔ 8 ≤ b ∧ pi = 2 * (31 - b) + 1 := by
      unfold capturePosition
      omega
    simp [captureInto_getLsbD hb, hcaptured]
  · have hlate : 8 ≤ b → pi ≠ 2 * (31 - b) + 1 := by omega
    simp +contextual [hlate]
  · have heven : pi ≠ 2 * (31 - b) + 1 := by omega
    simp [heven]

theorem frameBits_getLsbD (drives : Nat → Drive) (j : Nat) {b : Nat} (hb : b < 32) :
    (frameBits drives j).getLsbD b =
      (decide (8 ≤ b) && decide (2 * (31 - b) + 1 < j) && portRead (drives (2 * (31 - b) + 1))) := by
  induction j with
  | zero => simp [frameBits]
  | succ j ih =>
    rw [frameBits, afterHalfCycle_getLsbD hb, ih]
    by_cases hj : j = 2 * (31 - b) + 1
    · simp [hj]
    · have hbefore : 2 * (31 - b) + 1 < j + 1 ↔ 2 * (31 - b) + 1 < j := by omega
      simp [hj, hbefore]

/-! ### A frame in progress (R60, R92) -/

/-- An armed engine before a frame whose `TICK`s fall due one after the other; the peer is ready. -/
structure State.FrameStarts (s : State) (drives : Nat → Drive) (times : Nat → Nat) : Prop where
  admits : s.tickAdmits (times 0)
  pulseIndex : s.pulseIndex = 0
  accumulator : s.shiftAccumulator = 0
  spacing : ∀ k, times k + s.params.tEdge ≤ times (k + 1)
  ready : portRead (drives 0) = false

/-- The frame that starts in `s`, after `j` half-cycles (`0 < j`) and before its last. -/
def State.inFrame (s : State) (drives : Nat → Drive) (times : Nat → Nat) (rest : List Event) (j : Nat) : State :=
  { s with
    pulseIndex := j
    clockLine := j % 2 == 1
    shiftAccumulator := frameBits drives j
    nextWakeTime := some (times (j - 1) + s.params.tEdge)
    lastTime := times (j - 1)
    outbox := s.outbox ++ (List.range j).map (fun k => .reschedule (times k + s.params.tEdge))
    inbox := rest }

/-- The first `j` events of a frame. -/
def frameTicks (drives : Nat → Drive) (times : Nat → Nat) (j : Nat) : List Event :=
  (List.range j).map fun k => .tick (drives k) (times k)

/-- A run of one more step is that step of the state reached. -/
theorem run_succ_of_run {M : Host.Core} {s x : M.State} {k : Nat} (h : M.run k s = .next x) :
    M.run (k + 1) s = M.step x := by
  induction k generalizing s with
  | zero =>
    cases h
    cases hx : M.step x <;> simp [Host.Core.run, hx]
  | succ k ih =>
    rw [Host.Core.run] at h ⊢
    cases hs : M.step s with
    | next s₁ =>
      rw [hs] at h
      exact ih h
    | fault r => simp [hs] at h
    | refused r => simp [hs] at h

section
variable {s : State} {drives : Nat → Drive} {times : Nat → Nat} {rest : List Event}

theorem State.FrameStarts.inFrame_admits (h : s.FrameStarts drives times) (rest : List Event) {j : Nat}
    (hj : 0 < j) : (s.inFrame drives times rest j).tickAdmits (times j) := by
  obtain ⟨hex, harmed, -⟩ := h.admits
  have hsp := h.spacing (j - 1)
  rw [Nat.sub_add_cancel hj] at hsp
  exact ⟨hex, harmed, ⟨_, rfl, hsp⟩, (Nat.le_add_right _ _).trans hsp⟩

/-- R83: the first half-cycle. -/
theorem State.FrameStarts.step_first (h : s.FrameStarts drives times)
    (hin : s.inbox = .tick (drives 0) (times 0) :: rest) :
    step s = .next (s.inFrame drives times rest 1) := by
  obtain ⟨-, harmed, -⟩ := h.admits
  obtain ⟨s', hstep, hres⟩ := step_tick_of_admits hin h.admits
  have hlast : s.pulseIndex + 1 < 48 + 2 * s.gainCode := by
    rw [h.pulseIndex]
    omega
  rw [hstep, hres.eq_halfCycle (fun _ => h.ready) hlast]
  simp [State.inFrame, harmed, h.pulseIndex, h.accumulator, frameBits, afterHalfCycle]

/-- R82, R84, R86: each further half-cycle but the last. -/
theorem State.FrameStarts.step_inFrame (h : s.FrameStarts drives times) {j : Nat} (hj : 0 < j)
    (hlast : j + 1 < 48 + 2 * s.gainCode) :
    step (s.inFrame drives times (.tick (drives j) (times j) :: rest) j) =
      .next (s.inFrame drives times rest (j + 1)) := by
  obtain ⟨-, harmed, -⟩ := h.admits
  obtain ⟨s', hstep, hres⟩ := step_tick_of_admits rfl (h.inFrame_admits (.tick (drives j) (times j) :: rest) hj)
  have hnotzero : j = 0 → portRead (drives j) = false := fun hz => absurd hz hj.ne'
  rw [hstep, hres.eq_halfCycle hnotzero hlast]
  simp [State.inFrame, harmed, frameBits, List.range_succ]

theorem State.FrameStarts.run_inFrame (h : s.FrameStarts drives times) {j : Nat} (hj : 0 < j)
    (hlast : j < 48 + 2 * s.gainCode) (hin : s.inbox = frameTicks drives times j ++ rest) :
    Host.Core.run core j s = .next (s.inFrame drives times rest j) := by
  induction j, hj using Nat.le_induction generalizing rest with
  | base => exact (run_succ_of_run (M := core) rfl).trans (h.step_first hin)
  | succ j hj ih =>
    rw [frameTicks, List.range_succ, List.map_append, List.append_assoc] at hin
    rw [run_succ_of_run (M := core) (ih (Nat.lt_of_succ_lt hlast) hin)]
    exact h.step_inFrame hj hlast

end

/-! ### The obligations -/

/-- Settles O23. -/
theorem decodeAndEncodeAgree : Obligations.DecodeAndEncodeAgree :=
  ⟨decode_encode, fun _ _ => agreeOn_of_decode⟩

/-- Settles O19. -/
theorem tickSelectsBySourceConditions : Obligations.TickSelectsBySourceConditions := by
  intro drive t s
  rw [decode_tick_eventWord, portRead_eq]
  simp only [decide_eq_true_eq]

/-- Settles O21: `z`, `o`, `w` and `l` all speak of one counter. -/
theorem impossibleSelectorsNeverFormed : Obligations.ImpossibleSelectorsNeverFormed := by
  rintro pi g d e _ rfl
  obtain ⟨hz, ho, hw, hl, -, -⟩ := selector_getLsbD (flagZ pi) (flagO pi) (flagW pi) (flagL pi g) d e
  rw [tickSelector_eq, hz, ho, hw, hl]
  simp only [flagZ, flagO, flagW, flagL, frameLength, beq_iff_eq, beq_eq_false_iff_ne,
    decide_eq_true_eq, decide_eq_false_iff_not]
  omega

/-- Settles O24. -/
theorem placedTableWordIsPerformedNext : Obligations.PlacedTableWordIsPerformedNext := by
  intro s nbits w i h
  obtain ⟨ew, hew, hd⟩ := exists_tableWord_of_decodeTableWord h
  have hplaced : s.withFetchWord nbits w = stage ew s := by simp [State.withFetchWord, hew]
  rw [hplaced]
  exact step_stage hd s

/-- Settles O38, half-cycle by half-cycle from the first. -/
theorem frameInProgressHoldsItsBits : Obligations.FrameInProgressHoldsItsBits := by
  intro s drives times rest j n hex harmed hpi hsa hwake hdue htime hspacing hready hj hlast hin
  have hstart : s.FrameStarts drives times :=
    ⟨⟨hex, harmed, ⟨n, hwake, hdue⟩, htime⟩, hpi, hsa, hspacing, hready⟩
  exact ⟨frameBits drives j, hstart.run_inFrame hj hlast hin, fun _ => frameBits_getLsbD drives j⟩

/-- Settles O20. -/
theorem requestsSelectByFlags : Obligations.RequestsSelectByFlags :=
  ⟨decode_query_eventWord, decode_consume_eventWord, fun _ _ _ _ _ _ _ => rfl⟩

/-- Settles O22, word by word. -/
theorem tableWordsDecodeToTheirRows : Obligations.TableWordsDecodeToTheirRows := by
  unfold Obligations.TableWordsDecodeToTheirRows
  decide

end Sys2Proof.Machine

/-! ## The engine's tick (`40_engine_tick.md`): the next state of each operation, retries and the stop

First what a completion writes, then a peer that is not ready, then what disarms the engine. -/

namespace Sys2Proof.Machine

/-! ### What the shared parts of a `TICK` write -/

/-- R80: a `TICK` is admitted only while the engine is armed, so a schedule decision that arms it changes nothing there. -/
theorem State.tickAdmits.armed {t : Nat} {s : State} (h : s.tickAdmits t) : s.armed = true := by
  obtain ⟨-, harmed, -⟩ := h
  exact harmed

/-- R103: the multiplier as a word. -/
theorem Invert.toWord_eq (inv : Invert) : inv.toWord = if inv = .plus then 1 else -1 := by
  cases inv <;> rfl

/-- R88 after the half-cycle that ends a frame: the counter's advance is lost in its reset. -/
theorem halfCycle_complete_eq (b : Level) (s : State) :
    (s.halfCycle b).complete = { s with
      clockLine := b
      latestResult := some (s.shiftAccumulator.sshiftRight 8 * (if s.invert = .plus then 1 else -1))
      pending := true
      pulseIndex := 0
      shiftAccumulator := 0 } := by
  rw [← Invert.toWord_eq]
  rfl

/-! ### A peer that is not ready (R81) -/

section
variable {s s' : State} {d : Level} {t : Nat} {times : Nat → Nat} {rest : List Event}

/-- R81: at a frame boundary a high line makes a `TICK` a retry. -/
theorem State.TickResult.eq_retry (hres : s.TickResult d t s') (hpi : s.pulseIndex = 0)
    (hd : d = true) : s' = { s with
      nextWakeTime := some (t + s.params.tRetry)
      armed := true
      lastTime := t
      outbox := s.outbox ++ [.reschedule (t + s.params.tRetry)] } := by
  cases hres with
  | retry => rfl
  | rise _ hready =>
    rw [hready hpi] at hd
    cases hd
  | fall hodd => simp [hpi] at hodd
  | endr hodd => simp [hpi] at hodd
  | ends hodd => simp [hpi] at hodd

/-- An armed engine at a frame boundary whose `TICK`s fall due one retry delay after the other. -/
structure State.Waits (s : State) (times : Nat → Nat) : Prop where
  admits : s.tickAdmits (times 0)
  pulseIndex : s.pulseIndex = 0
  spacing : ∀ k, times k + s.params.tRetry ≤ times (k + 1)

/-- The engine that waits in `s`, after `m` retries. -/
def State.retried (s : State) (times : Nat → Nat) (rest : List Event) (m : Nat) : State :=
  { s with
    nextWakeTime := if m = 0 then s.nextWakeTime else some (times (m - 1) + s.params.tRetry)
    lastTime := if m = 0 then s.lastTime else times (m - 1)
    outbox := s.outbox ++ (List.range m).map (fun k => .reschedule (times k + s.params.tRetry))
    inbox := rest }

theorem retried_zero (s : State) (times : Nat → Nat) : s.retried times s.inbox 0 = s := by
  simp [State.retried]

theorem State.Waits.retried_admits (h : s.Waits times) (rest : List Event) (m : Nat) :
    (s.retried times rest m).tickAdmits (times m) := by
  cases m with
  | zero => exact h.admits
  | succ k =>
    obtain ⟨hex, harmed, -⟩ := h.admits
    have hdue := h.spacing k
    exact ⟨hex, harmed, ⟨_, rfl, hdue⟩, (Nat.le_add_right _ _).trans hdue⟩

theorem State.Waits.step_retried (h : s.Waits times) (rest : List Event) (m : Nat) :
    step (s.retried times (.tick .high (times m) :: rest) m) = .next (s.retried times rest (m + 1)) := by
  obtain ⟨s', hstep, hres⟩ :=
    step_tick_of_admits rfl (h.retried_admits (.tick .high (times m) :: rest) m)
  rw [hstep, hres.eq_retry h.pulseIndex rfl]
  simp [State.retried, h.admits.armed, List.range_succ]

theorem State.Waits.run_retried (h : s.Waits times) {m : Nat}
    (hin : s.inbox = (List.range m).map (fun k => .tick .high (times k)) ++ rest) :
    Host.Core.run core m s = .next (s.retried times rest m) := by
  induction m generalizing rest with
  | zero =>
    obtain rfl : s.inbox = rest := hin
    rw [retried_zero]
    rfl
  | succ m ih =>
    rw [List.range_succ, List.map_append, List.append_assoc] at hin
    rw [run_succ_of_run (M := core) (ih hin)]
    exact h.step_retried rest m

end

/-! ### What disarms the engine (R89, R90, R93) -/

section
variable {s s' : State} {d : Level} {t : Nat}

theorem State.TickResult.armed_eq_false_iff (hres : s.TickResult d t s') :
    s'.armed = false ↔
      (s.pulseIndex % 2 = 1 ∧ s.pulseIndex + 1 = 48 + 2 * s.gainCode) ∧ s.enabled = false := by
  cases hres with
  | retry hpi => simp [hpi]
  | rise hpi => simp [hpi]
  | fall _ hlast => simp [hlast]
  | endr _ _ hen => simp [hen]
  | ends hpi hlast hen => simp [hpi, hlast, hen]

/-- R118: of a created record no event but a `TICK` disarms the engine, and no other completes a frame. -/
theorem step_armed_of_not_tick (hex : s.devExists = true) (harmed : s.armed = true)
    (h : step s = .next s') (hin : ∀ drive t rest, s.inbox ≠ .tick drive t :: rest) :
    s'.armed = true ∧ s.completesNext = false := by
  cases hs : s.inbox with
  | nil =>
    obtain rfl := eq_of_step_next_of_nil hs h
    exact ⟨harmed, by simp [State.completesNext, hs]⟩
  | cons e rest =>
    cases e with
    | tick drive t => exact absurd hs (hin drive t rest)
    | configure id dataPin clockPin g inv t =>
      obtain ⟨habsent, -⟩ := step_configure_admits hs h
      simp [hex] at habsent
    | query id en probe t =>
      refine ⟨?_, by simp [State.completesNext, hs]⟩
      rw [step_query_next hs h]
      split_ifs
      · rfl
      · exact harmed
    | consume t =>
      obtain ⟨-, hkept, -⟩ := step_consume_schedule hs h
      exact ⟨hkept.trans harmed, by simp [State.completesNext, hs]⟩

end

/-! ### The obligations -/

/-- Settles O40, retry by retry. -/
theorem notReadyRetriesForever : Obligations.NotReadyRetriesForever := by
  intro m s times rest n hex harmed hpi hwake hdue htime hspacing hin
  have hwaits : s.Waits times := ⟨⟨hex, harmed, ⟨n, hwake, hdue⟩, htime⟩, hpi, hspacing⟩
  rw [hwaits.run_retried hin, State.retried, hwake]

/-- Settles O43: of the cases of R64 only the completion of a disabled device stops, and no other event does. -/
theorem engineStopsOnlyAtDisabledCompletion : Obligations.EngineStopsOnlyAtDisabledCompletion := by
  intro s s' hex harmed h
  by_cases hin : ∃ drive t rest, s.inbox = .tick drive t :: rest
  · obtain ⟨drive, t, rest, hin⟩ := hin
    rw [completesNext_iff_of_tick hin]
    exact (step_tick_next hin h).2.armed_eq_false_iff
  · push Not at hin
    obtain ⟨hkept, hnot⟩ := step_armed_of_not_tick hex harmed h hin
    simp [hkept, hnot]

/-- Settles O1. -/
theorem nrdyOnlyReschedulesAfterRetryDelay : Obligations.NrdyOnlyReschedulesAfterRetryDelay := by
  intro t s h
  refine exec_nrdy_next_iff.mpr ⟨h, ?_⟩
  rw [h.armed]
  rfl

/-- Settles O2. -/
theorem startRaisesClockAndCountsOne : Obligations.StartRaisesClockAndCountsOne := by
  intro t s h
  refine exec_start_next_iff.mpr ⟨h, ?_⟩
  rw [h.armed]
  rfl

/-- Settles O3. -/
theorem riseRaisesClockAndAdvances : Obligations.RiseRaisesClockAndAdvances := by
  intro t s h
  refine exec_rise_next_iff.mpr ⟨h, ?_⟩
  rw [h.armed]
  rfl

/-- Settles O4. -/
theorem fallcCapturesLowersClockAndAdvances : Obligations.FallcCapturesLowersClockAndAdvances := by
  intro d t s h
  refine exec_fallc_next_iff.mpr ⟨h, ?_⟩
  rw [h.armed]
  rfl

/-- Settles O5. -/
theorem fallxLowersClockAndAdvances : Obligations.FallxLowersClockAndAdvances := by
  intro t s h
  refine exec_fallx_next_iff.mpr ⟨h, ?_⟩
  rw [h.armed]
  rfl

/-- Settles O6: the suffix of R88 on the accumulator that the capture leaves. -/
theorem fallcEndrCapturesThenCompletesAndReschedules :
    Obligations.FallcEndrCapturesThenCompletesAndReschedules := by
  rintro d t s h _ rfl
  refine exec_fallcEndr_next_iff.mpr ⟨h, ?_⟩
  rw [halfCycle_complete_eq, h.armed]
  rfl

/-- Settles O7: the suffix of R88 on the accumulator that the capture leaves. -/
theorem fallcEndsCapturesThenCompletesAndStops : Obligations.FallcEndsCapturesThenCompletesAndStops := by
  rintro d t s h _ rfl
  refine exec_fallcEnds_next_iff.mpr ⟨h, ?_⟩
  rw [halfCycle_complete_eq]
  rfl

/-- Settles O8. -/
theorem fallxEndrCompletesAndReschedules : Obligations.FallxEndrCompletesAndReschedules := by
  intro t s h
  refine exec_fallxEndr_next_iff.mpr ⟨h, ?_⟩
  rw [halfCycle_complete_eq, h.armed]
  rfl

/-- Settles O9. -/
theorem fallxEndsCompletesAndStops : Obligations.FallxEndsCompletesAndStops := by
  intro t s h
  refine exec_fallxEnds_next_iff.mpr ⟨h, ?_⟩
  rw [halfCycle_complete_eq]
  rfl

end Sys2Proof.Machine

/-! ## The sample assembler (`41_sample_assembler.md`): captures, the conversion and a frame's result

First the step that completes a frame, then the accumulator of a whole frame and its conversion. -/

namespace Sys2Proof.Machine

/-! ### The step that completes a frame -/

/-- R85, R87, R89, R90: the last half-cycle of a frame delivers the result and decides the schedule by `enabled`. -/
theorem State.TickResult.eq_complete {s s' : State} {d : Level} {t : Nat} (hres : s.TickResult d t s')
    (hodd : s.pulseIndex % 2 = 1) (hlast : s.pulseIndex + 1 = 48 + 2 * s.gainCode) :
    s' = { s with
      clockLine := false
      latestResult := some (assemble (afterHalfCycle s.shiftAccumulator s.pulseIndex d) s.invert)
      pending := true
      pulseIndex := 0
      shiftAccumulator := 0
      armed := s.enabled
      nextWakeTime := if s.enabled = true then some (t + s.params.tSample) else s.nextWakeTime
      lastTime := t
      outbox := s.outbox ++ [if s.enabled = true then .reschedule (t + s.params.tSample) else .stop] } := by
  rw [afterHalfCycle, if_pos hodd]
  cases hres with
  | retry hpi => simp [hpi] at hodd
  | rise hpi => simp [hpi] at hodd
  | fall _ hnotlast => exact absurd hlast hnotlast
  | endr _ _ hen =>
    rw [fall_complete_eq]
    simp [State.reschedule, State.schedule, State.emit, State.seen, hen]
  | ends _ _ hen =>
    rw [fall_complete_eq]
    simp [State.stop, State.cancel, State.emit, State.seen, hen]

/-- R92: after its first `47 + 2*G` half-cycles a frame has one more, which completes it. -/
theorem State.FrameStarts.run_frame {s : State} {drives : Nat → Drive} {times : Nat → Nat}
    {rest : List Event} (h : s.FrameStarts drives times)
    (hin : s.inbox = frameTicks drives times (48 + 2 * s.gainCode) ++ rest) :
    ∃ s', Host.Core.run core (48 + 2 * s.gainCode) s = .next s' ∧
      State.TickResult (portRead (drives (47 + 2 * s.gainCode))) (times (47 + 2 * s.gainCode))
        (s.inFrame drives times rest (47 + 2 * s.gainCode)) s' := by
  have hlen : 48 + 2 * s.gainCode = 47 + 2 * s.gainCode + 1 := by omega
  have hpos : 0 < 47 + 2 * s.gainCode := by omega
  rw [hlen, frameTicks, List.range_succ, List.map_append, List.append_assoc] at hin
  obtain ⟨s', hstep, hres⟩ := step_tick_of_admits rfl (h.inFrame_admits _ hpos)
  refine ⟨s', ?_, hres⟩
  rw [hlen, run_succ_of_run (M := core) (h.run_inFrame hpos (by omega) hin)]
  exact hstep

/-! ### The accumulator of a whole frame and its conversion (R102, R107) -/

/-- R101, R107: once the data window is over the accumulator holds the field, above eight bits that are 0. -/
theorem frameBits_eq_field {drives : Nat → Drive} {field : BitVec 24} {j : Nat} (hj : 48 ≤ j)
    (hfield : ∀ k, k < 24 → field.getLsbD (23 - k) = portRead (drives (2 * k + 1))) :
    frameBits drives j = field ++ 0#8 := by
  refine BitVec.eq_of_getLsbD_eq fun b hb => ?_
  rw [frameBits_getLsbD drives j hb, BitVec.getLsbD_append]
  by_cases hlow : b < 8
  · simp [hlow]
  · have hwindow : 2 * (31 - b) + 1 < j := by omega
    have hbit : 23 - (31 - b) = b - 8 := by omega
    rw [← hfield (31 - b) (by omega), hbit]
    simp [hlow, hwindow, Nat.le_of_not_lt hlow]

theorem assemble_field_toInt (field : BitVec 24) (inv : Invert) :
    (assemble (field ++ 0#8) inv).toInt = inv.toInt * field.toInt := by
  have hshifted : (field ++ 0#8).toInt = 256 * field.toInt := by
    rw [BitVec.toInt_append]
    simp
  rw [assemble_toInt, hshifted, Int.mul_ediv_cancel_left _ (by decide), Int.mul_comm]

/-! ### The obligations -/

/-- Settles O36. -/
theorem captureSetsExactlyItsBit : Obligations.CaptureSetsExactlyItsBit :=
  fun _ _ _ _ _ _ hj => ⟨captureInto_getLsbD hj, by omega, by omega⟩

/-- Settles O37: the ranges are those of the quotient, a signed number of 24 bits, and of its negation. -/
theorem assembleIsExact : Obligations.AssembleIsExact := by
  intro sa inv
  have hlo := BitVec.le_toInt sa
  have hhi := BitVec.toInt_lt (x := sa)
  have hplus : (assemble sa .plus).toInt = sa.toInt / 256 := (assemble_toInt sa .plus).trans (Int.mul_one _)
  have hminus : (assemble sa .minus).toInt = -(sa.toInt / 256) :=
    (assemble_toInt sa .minus).trans (Int.mul_neg_one _)
  refine ⟨assemble_toInt sa inv, ?_, ?_, by rw [hminus, hplus]⟩
  · rintro rfl
    omega
  · rintro rfl
    omega

/-- Settles O39: the frame's last step converts the accumulator that holds the whole field. -/
theorem frameResultIsInvertTimesSignedField : Obligations.FrameResultIsInvertTimesSignedField := by
  intro s drives times rest n field hex harmed hpi hsa hwake hdue htime hspacing hready hfield hin
  have hstart : s.FrameStarts drives times :=
    ⟨⟨hex, harmed, ⟨n, hwake, hdue⟩, htime⟩, hpi, hsa, hspacing, hready⟩
  obtain ⟨s', hrun, hres⟩ := hstart.run_frame hin
  have hodd : (47 + 2 * s.gainCode) % 2 = 1 := by omega
  have hlast : 47 + 2 * s.gainCode + 1 = 48 + 2 * s.gainCode := by omega
  have hbits : frameBits drives (47 + 2 * s.gainCode + 1) = field ++ 0#8 :=
    frameBits_eq_field (by omega) hfield
  have hbefore : 46 + 2 * s.gainCode = 47 + 2 * s.gainCode - 1 := by omega
  obtain rfl := hres.eq_complete hodd hlast
  refine ⟨_, _, hrun, rfl, ?_, rfl, rfl, rfl, rfl, rfl, rfl, rfl, ?_⟩
  · rw [← assemble_field_toInt field s.invert, ← hbits]
    rfl
  · rw [hbefore, apply_ite some]
    rfl

end Sys2Proof.Machine

/-! ## The lifecycle (`42_lifecycle.md`): the host's operations and the table of R118

First which of R118's conditions a state is in, then the condition after each kind of event, then the host's operations
in full. -/

namespace Sys2Proof.Machine

/-! ### The conditions of R118 -/

section
variable {s : State}

theorem condition_eq_absent_iff : s.condition = .absent ↔ s.devExists = false := by
  unfold State.condition
  split_ifs with hex <;> simp [hex]

theorem condition_ne_absent (hex : s.devExists = true) : s.condition ≠ .absent := by
  simp [condition_eq_absent_iff, hex]

theorem condition_eq_running_iff : s.condition = .running ↔ s.devExists = true ∧ s.enabled = true := by
  unfold State.condition
  split_ifs with hex hen <;> simp [*]

theorem condition_of_not_enabled (hex : s.devExists = true) (hen : s.enabled = false) :
    s.condition = if s.armed = true then .draining
      else if s.nextWakeTime = none then .configuredIdle else .stopped := by
  simp [State.condition, hex, hen]

/-- R112 of a disabling `QUERY`: an engine that is armed drains, and a device that was not enabled stays as it was. -/
theorem setRequest_false_condition (hgood : s.Good) (hex : s.devExists = true) (probe : Option Nat) :
    (s.setRequest false probe).condition = if s.condition = .running then .draining else s.condition := by
  rw [condition_of_not_enabled (s := s.setRequest false probe) hex rfl]
  cases hen : s.enabled with
  | true => simp [condition_eq_running_iff.mpr ⟨hex, hen⟩, hgood.enabledArmed hen]
  | false =>
    have hnot : s.condition ≠ .running := by simp [condition_eq_running_iff, hen]
    rw [if_neg hnot, condition_of_not_enabled hex hen]
    rfl

end

/-! ### The condition after each kind of event -/

section
variable {s s' : State} {rest : List Event} {t : Nat}

/-- R110. -/
theorem step_configure_condition {id dataPin clockPin g : Nat} {inv : Int}
    (hin : s.inbox = .configure id dataPin clockPin g inv t :: rest) (h : step s = .next s') :
    s.condition = .absent ∧ s'.condition = .configuredIdle := by
  obtain ⟨habsent, -⟩ := step_configure_admits hin h
  rw [step_configure_next hin h]
  exact ⟨condition_eq_absent_iff.mpr habsent, rfl⟩

/-- R113, R114: a `QUERY` that enables arms the engine, or finds the device enabled and leaves it so. -/
theorem step_enable_condition {id : Nat} {probe : Option Nat}
    (hin : s.inbox = .query id true probe t :: rest) (h : step s = .next s') :
    s'.condition = .running := by
  have hex := step_query_devExists hin h
  rw [condition_eq_running_iff, step_query_next hin h]
  split_ifs
  · simp [hex]
  · simp [hex]

/-- R115. -/
theorem step_disable_condition {id : Nat} {probe : Option Nat} (hgood : s.Good)
    (hin : s.inbox = .query id false probe t :: rest) (h : step s = .next s') :
    s'.condition = if s.condition = .running then .draining else s.condition := by
  have hex := step_query_devExists hin h
  rw [step_query_next hin h, if_neg (by simp)]
  exact setRequest_false_condition ((hgood.taken rest).seen t) hex probe

/-- R120: the notifier is no part of the lifecycle. -/
theorem step_consume_condition (hin : s.inbox = .consume t :: rest) (h : step s = .next s') :
    s'.condition = s.condition := by
  obtain ⟨-, last, os, draws, rfl⟩ := step_consume_next hin h
  rfl

/-- R26's engine column, of the step of a `TICK`. -/
theorem step_tick_engineFrame {drive : Drive} (hin : s.inbox = .tick drive t :: rest)
    (h : step s = .next s') : State.EngineFrame { s with inbox := rest } s' := by
  obtain ⟨i, hd, hx⟩ := exec_of_step_next hin h
  exact exec_tick_engineFrame (decode_tick_isTick hd).1 hx

/-- R91, D19: the wake time of an engine that has been armed always has a value. -/
theorem State.TickResult.nextWakeTime_ne_none {d : Level} (hres : s.TickResult d t s')
    (hwake : s.nextWakeTime ≠ none) : s'.nextWakeTime ≠ none := by
  cases hres with
  | retry => simp
  | rise => simp
  | fall => simp
  | endr => simp
  | ends => simpa [State.fall] using hwake

/-- R89, R90, R93: a `TICK` finds the engine armed and leaves it so, but for the completion that finds the device
disabled. -/
theorem step_tick_condition {drive : Drive} (hin : s.inbox = .tick drive t :: rest)
    (h : step s = .next s') :
    (s.condition = .running ∧ s'.condition = .running) ∨
    (s.condition = .draining ∧
      s'.condition = if s.completesNext = true then .stopped else .draining) := by
  obtain ⟨⟨hex, harmed, ⟨n, hn, -⟩, -⟩, hres⟩ := step_tick_next hin h
  have hframe := step_tick_engineFrame hin h
  have hex' : s'.devExists = true := hframe.devExists.trans hex
  cases hen : s.enabled with
  | true =>
    exact .inl ⟨condition_eq_running_iff.mpr ⟨hex, hen⟩,
      condition_eq_running_iff.mpr ⟨hex', hframe.enabled.trans hen⟩⟩
  | false =>
    refine .inr ⟨by rw [condition_of_not_enabled hex hen, if_pos harmed], ?_⟩
    have hwake' : s'.nextWakeTime ≠ none := hres.nextWakeTime_ne_none (by simp [hn])
    have hstops : s'.armed = false ↔ s.completesNext = true ∧ s.enabled = false := by
      rw [completesNext_iff_of_tick hin]
      exact hres.armed_eq_false_iff
    rw [condition_of_not_enabled hex' (hframe.enabled.trans hen), if_neg hwake']
    cases hlast : s.completesNext with
    | true => simp [hstops.mpr ⟨hlast, hen⟩]
    | false =>
      have harmed' : s'.armed = true := by simpa [hlast] using hstops
      simp [harmed']

end

/-! ### The multiplier of a legal request (R15) -/

theorem Invert.ofInt_of_legal {inv : Int} (h : invertLegal inv) :
    Invert.ofInt inv = if inv = 1 then .plus else .minus := by
  obtain rfl | rfl := h <;> rfl

/-! ### The obligations -/

/-- Settles O44, by the kind of event: each leaves only the conditions that R118 lists for it. -/
theorem lifecycleFollowsTheTable : Obligations.LifecycleFollowsTheTable := by
  intro s s' e rest ⟨_, hgood⟩ hin h
  cases e with
  | tick drive t =>
    obtain ⟨hc, hc'⟩ | ⟨hc, hc'⟩ := step_tick_condition hin h
    · rw [hc]
      exact hc'
    · rw [hc]
      exact hc'
  | configure id dataPin clockPin g inv t =>
    obtain ⟨hc, hc'⟩ := step_configure_condition hin h
    rw [hc]
    exact hc'
  | query id en probe t =>
    have hex := step_query_devExists hin h
    have hpresent := condition_ne_absent hex
    cases en with
    | true =>
      have hc' := step_enable_condition hin h
      cases hc : s.condition with
      | absent => exact hpresent hc
      | _ => exact hc'
    | false =>
      have hc' := step_disable_condition (hgood hex) hin h
      cases hc : s.condition with
      | absent => exact hpresent hc
      | _ => simpa [hc] using hc'
  | consume t =>
    have hpresent := condition_ne_absent (step_consume_next hin h).1
    have hc' := step_consume_condition hin h
    cases hc : s.condition with
    | absent => exact hpresent hc
    | _ => exact hc'.trans hc

/-- Settles O10: a legal multiplier is `+1` or `-1` (R111 (c)). -/
theorem configureCreatesTheRecord : Obligations.ConfigureCreatesTheRecord := by
  intro id dataPin clockPin g inv t s h
  have ⟨_, _, hinv, _⟩ := h
  refine exec_configure_next_iff.mpr ⟨h, ?_⟩
  rw [← Invert.ofInt_of_legal hinv]
  rfl

/-- Settles O11. -/
theorem queryArmRestartsTheEngine : Obligations.QueryArmRestartsTheEngine := by
  intro id probe t s h
  refine exec_queryArm_next_iff.mpr ⟨h, ?_⟩
  rw [setRequest_arm_eq]
  rfl

/-- Settles O12: with edge retriggering the request's `EN` is the one the device has, with level the restart is
`QUERY.ARM`'s. -/
theorem queryHoldKeepsTheFrameUnlessLevelRetrigger :
    Obligations.QueryHoldKeepsTheFrameUnlessLevelRetrigger := by
  intro id probe t s h hen
  refine ⟨fun hedge => exec_queryHold_next_iff.mpr ⟨h, ?_⟩, fun hlevel => ?_⟩
  · rw [if_neg (by simp [hedge]), State.setRequest, ← hen]
    rfl
  · have hhold : exec (.queryHold id probe t) s = .next (((s.seen t).setRequest true probe).arm t) :=
      exec_queryHold_next_iff.mpr ⟨h, by rw [if_pos hlevel]⟩
    have harm : exec (.queryArm id probe t) s = .next (((s.seen t).setRequest true probe).arm t) :=
      exec_queryArm_next_iff.mpr ⟨h, rfl⟩
    exact ⟨hhold.trans harm.symm, _, hhold⟩

/-- Settles O13. -/
theorem queryDisClearsEnabledAndSetsProbe : Obligations.QueryDisClearsEnabledAndSetsProbe := by
  intro id probe t s h
  exact exec_queryDis_next_iff.mpr ⟨h, rfl⟩

end Sys2Proof.Machine

/-! ## The notifier (`43_notifier_report.md`): the task's operations and the reports along a run

First the task's operations in full, then how a step changes the count of reports and of the notification still
pending. -/

namespace Sys2Proof.Machine

/-! ### The task's operations (R121 to R123) -/

section
variable {s s' : State} {t : Nat} {rest : List Event}

theorem clearPending_of_not_pending (h : s.pending = false) : s.clearPending = s := by
  rw [State.clearPending, ← h]

/-- R121: a pass that finds the notifier clear only records its time. -/
theorem step_consume_of_not_pending (hin : s.inbox = .consume t :: rest) (hp : s.pending = false)
    (h : step s = .next s') : s' = { s with inbox := rest, lastTime := t } := by
  obtain ⟨i, hd, hx⟩ := exec_of_step_next hin h
  rw [decode_consume_eventWord, if_neg (by simp [hp]), Except.ok.injEq] at hd
  subst hd
  obtain ⟨-, rfl⟩ := exec_consumeIdle_next_iff.mp hx
  exact clearPending_of_not_pending hp

/-- R122, whether or not `latest_result` has a value. -/
theorem exec_consumeRpt_of_admits (h : s.consumeAdmits t) :
    exec (.consumeRpt t) s = .next { s with
      lastTime := t
      pending := false
      draws := s.draws + 1
      outbox := s.outbox ++ [.stateReport s.id s.timestamp s.reportedResult] } :=
  exec_consumeRpt_next_iff.mpr ⟨h, rfl⟩

/-- R123, whether or not `latest_result` has a value. -/
theorem exec_consumePrb_of_admits {p : Nat} (h : s.consumeAdmits t) (hprobe : s.probeRef = some p) :
    exec (.consumePrb t) s = .next { s with
      lastTime := t
      pending := false
      draws := s.draws + 1
      outbox := s.outbox ++ [.probeSample p s.reportedResult s.timestamp,
        .stateReport s.id s.timestamp s.reportedResult] } := by
  refine exec_consumePrb_next_iff.mpr ⟨h, ?_⟩
  rw [sample_of_probe (s := (s.seen t).clearPending) _ _ hprobe, List.append_cons]
  rfl

end

/-! ### Reports and pending notifications (R125, R126) -/

/-- The reports emitted, and the one still owed while the notifier is set. -/
def State.notices (s : State) : Nat := s.reports + if s.pending = true then 1 else 0

section
variable {s s' : State} {t : Nat} {rest : List Event}

theorem reports_emit {o : Output} (s : State) (h : o.isReport = false) :
    (s.emit o).reports = s.reports := by
  simp [State.reports, h]

theorem notices_congr (hout : s'.outbox = s.outbox) (hp : s'.pending = s.pending) :
    s'.notices = s.notices := by
  rw [State.notices, State.reports, hout, hp, State.notices, State.reports]

/-- R123: a probe's sample is no report. -/
theorem countP_isReport_samples (ts : Nat) (v : Word) (s : State) :
    (s.samples ts v).countP Output.isReport = 0 := by
  unfold State.samples
  split <;> rfl

/-- R80: a `TICK` emits its schedule decision and no report. -/
theorem step_tick_reports {drive : Drive} (hin : s.inbox = .tick drive t :: rest)
    (h : step s = .next s') : s'.reports = s.reports := by
  obtain ⟨i, hd, hx⟩ := exec_of_step_next hin h
  obtain ⟨x, hund, hdecision⟩ := exec_tick_undecided (decode_tick_isTick hd).1 hx
  have hkept : x.reports = s.reports := congrArg (List.countP Output.isReport) hund.outbox
  obtain ⟨due, rfl⟩ | rfl := hdecision
  · exact (reports_emit (x.schedule due) rfl).trans hkept
  · exact (reports_emit x.cancel rfl).trans hkept

/-- R88: of the half-cycles only the last one of a frame wakes the notifier. -/
theorem State.TickResult.pending {d : Level} (hres : s.TickResult d t s') :
    s'.pending = s.pending ∨ s.pulseIndex % 2 = 1 ∧ s.pulseIndex + 1 = 48 + 2 * s.gainCode := by
  cases hres with
  | retry => exact .inl rfl
  | rise => exact .inl rfl
  | fall => exact .inl rfl
  | endr hpi hlast => exact .inr ⟨hpi, hlast⟩
  | ends hpi hlast => exact .inr ⟨hpi, hlast⟩

theorem step_tick_notices {drive : Drive} (hin : s.inbox = .tick drive t :: rest)
    (h : step s = .next s') : s'.notices ≤ s.notices + if s.completesNext = true then 1 else 0 := by
  unfold State.notices
  rw [step_tick_reports hin h]
  obtain hkept | hlast := (step_tick_next hin h).2.pending
  · rw [hkept]
    exact Nat.le_add_right _ _
  · rw [if_pos ((completesNext_iff_of_tick hin).mpr hlast)]
    split_ifs <;> omega

/-- R122, R126: a pass turns the pending notification, if there is one, into one report. -/
theorem step_consume_notices (hin : s.inbox = .consume t :: rest) (h : step s = .next s') :
    s'.notices = s.notices := by
  cases hp : s.pending with
  | false =>
    rw [step_consume_of_not_pending hin hp h]
    exact notices_congr rfl rfl
  | true =>
    have hout := step_consume_pending_outbox hin hp h
    have hreports : s'.reports = s.reports + 1 := by
      simp [State.reports, hout, countP_isReport_samples, Output.isReport]
    obtain ⟨-, last, os, draws, rfl⟩ := step_consume_next hin h
    rw [State.notices, hreports, State.notices, hp]
    rfl

/-- R125: only the completion of a frame adds a notification, and each is turned into one report or lost. -/
theorem step_notices_le (h : step s = .next s') :
    s'.notices ≤ s.notices + if s.completesNext = true then 1 else 0 := by
  cases hin : s.inbox with
  | nil =>
    obtain rfl := eq_of_step_next_of_nil hin h
    exact Nat.le_add_right _ _
  | cons e rest =>
    cases e with
    | tick drive t => exact step_tick_notices hin h
    | configure id dataPin clockPin g inv t =>
      obtain rfl := step_configure_next hin h
      exact (Nat.le_add_right s.reports _).trans (Nat.le_add_right _ _)
    | query id en probe t =>
      have hkept : s'.notices = s.notices := by
        rw [step_query_next hin h]
        split_ifs
        · exact notices_congr (by simp) (by simp)
        · exact notices_congr (by simp) (by simp)
      exact hkept.trans_le (Nat.le_add_right _ _)
    | consume t => exact (step_consume_notices hin h).trans_le (Nat.le_add_right _ _)

theorem completions_succ_of_step (k : Nat) (h : step s = .next s') :
    completions (k + 1) s = (if s.completesNext = true then 1 else 0) + completions k s' := by
  rw [completions, h]

theorem exists_step_of_run_succ {M : Host.Core} {s s' : M.State} {k : Nat}
    (h : M.run (k + 1) s = .next s') : ∃ s₁, M.step s = .next s₁ ∧ M.run k s₁ = .next s' := by
  rw [Host.Core.run] at h
  cases hs : M.step s with
  | next s₁ => exact ⟨s₁, rfl, by rwa [hs] at h⟩
  | fault r => simp [hs] at h
  | refused r => simp [hs] at h

end

/-! ### The obligations -/

/-- Settles O46, by induction on the number of steps. -/
theorem noMoreReportsThanCompletedFrames : Obligations.NoMoreReportsThanCompletedFrames := by
  intro k s s' h
  change s'.notices ≤ s.notices + completions k s
  induction k generalizing s with
  | zero =>
    cases h
    exact Nat.le_add_right _ _
  | succ k ih =>
    obtain ⟨s₁, hstep, hrun⟩ := exists_step_of_run_succ (M := core) h
    calc s'.notices
        ≤ s₁.notices + completions k s₁ := ih s₁ hrun
      _ ≤ s.notices + (if s.completesNext = true then 1 else 0) + completions k s₁ :=
          Nat.add_le_add_right (step_notices_le hstep) _
      _ = s.notices + completions (k + 1) s := by
          rw [completions_succ_of_step k hstep, Nat.add_assoc]

/-- Settles O47: the first pass leaves the notifier clear. -/
theorem secondConsumeIsIdle : Obligations.SecondConsumeIsIdle := by
  intro s s1 s2 t u rest hin h1 h2
  obtain ⟨-, last, os, draws, rfl⟩ := step_consume_next hin h1
  exact step_consume_of_not_pending rfl rfl h2

/-- Settles O14. -/
theorem consumeIdleHasNoEffect : Obligations.ConsumeIdleHasNoEffect := by
  intro t s h hp
  exact exec_consumeIdle_next_iff.mpr ⟨h, (clearPending_of_not_pending (s := s.seen t) hp).symm⟩

/-- Settles O15. -/
theorem consumeRptReportsLatestResult : Obligations.ConsumeRptReportsLatestResult := by
  intro t s v h hv
  rw [← reportedResult_of_some hv]
  exact ⟨s.timestamp, exec_consumeRpt_of_admits h, fun _ => timestamp_of_nextWakeTime⟩

/-- Settles O16. -/
theorem consumePrbSamplesThenReports : Obligations.ConsumePrbSamplesThenReports := by
  intro t s v p h hv hprobe
  rw [← reportedResult_of_some hv]
  exact ⟨s.timestamp, exec_consumePrb_of_admits h hprobe, fun _ => timestamp_of_nextWakeTime⟩

/-- Settles O27: the reports complete whatever `latest_result` is, here with the free value of log 5. -/
theorem reportWithoutResultCompletes : Obligations.ReportWithoutResultCompletes := by
  intro t s h _
  exact ⟨s.timestamp, s.reportedResult, exec_consumeRpt_of_admits h,
    fun _ hprobe => exec_consumePrb_of_admits h hprobe⟩

end Sys2Proof.Machine

/-! ## Refusals (`60_exceptions.md`): the table of R132, and what a step answers

First the admission rules against R132's table, then the one shape that the answer of a step with an event has. -/

namespace Sys2Proof.Machine

/-! ### The admission rules and the table of R132 -/

/-- The admission rule of each event kind (R80, R111, R112, R120), on the state the event finds. -/
def Event.refusal : Event → State → Option Refusal
  | .tick _ t, s => tickRefusal t s
  | .configure _ dataPin clockPin g inv t, s => configureRefusal dataPin clockPin g inv t s
  | .query id _ _ t, s => queryRefusal id t s
  | .consume t, s => consumeRefusal t s

section
variable {s : State} {e : Event} {r : Refusal} {t id dataPin clockPin g : Nat} {inv : Int} {d : Drive}
  {en : Bool} {probe : Option Nat}

/-- A missing wake time counts as one that is not reached (log 16). -/
theorem due_eq_false_iff : s.due t = false ↔ ∀ n, s.nextWakeTime = some n → t < n := by
  rw [← Bool.not_eq_true, due_iff]
  simp

/-- `RF_TIME` is the one row for every event kind. -/
theorem condition_time_iff : Refusal.condition .time e s ↔ e.time < s.lastTime := by
  cases e <;> rfl

theorem condition_of_timeRefusal (h : timeRefusal e.time s = some r) : r.condition e s := by
  obtain ⟨rfl, hlt⟩ := timeRefusal_some_iff.mp h
  exact condition_time_iff.mpr hlt

theorem condition_of_tickRefusal (h : tickRefusal t s = some r) : r.condition (.tick d t) s := by
  unfold tickRefusal at h
  split_ifs at h with hex harmed hdue
  · cases h
    exact hex
  · cases h
    exact harmed
  · cases h
    exact due_eq_false_iff.mp hdue
  · exact condition_of_timeRefusal h

theorem condition_of_configureRefusal (h : configureRefusal dataPin clockPin g inv t s = some r) :
    r.condition (.configure id dataPin clockPin g inv t) s := by
  unfold configureRefusal at h
  split_ifs at h with hex hgain hinv hpins
  · cases h
    exact hex
  · exact condition_of_timeRefusal h
  · cases h
    rw [not_and_or, not_and_or, not_ne_iff, not_not, not_not] at hpins
    exact hpins
  · cases h
    exact not_or.mp hinv
  · cases h
    rw [not_and_or, Nat.not_le, Nat.not_le] at hgain
    exact hgain

theorem condition_of_queryRefusal (h : queryRefusal id t s = some r) :
    r.condition (.query id en probe t) s := by
  unfold queryRefusal at h
  split_ifs at h with hex hid
  · cases h
    exact hex
  · cases h
    exact hid
  · exact condition_of_timeRefusal h

theorem condition_of_consumeRefusal (h : consumeRefusal t s = some r) : r.condition (.consume t) s := by
  unfold consumeRefusal at h
  split_ifs at h with hex
  · cases h
    exact hex
  · exact condition_of_timeRefusal h

/-- The code of a refusal is that of a row whose condition holds. -/
theorem condition_of_refusal (h : e.refusal s = some r) : r.condition e s := by
  cases e with
  | tick => exact condition_of_tickRefusal h
  | configure => exact condition_of_configureRefusal h
  | query => exact condition_of_queryRefusal h
  | consume => exact condition_of_consumeRefusal h

theorem State.tickAdmits.not_condition (h : s.tickAdmits t) : ¬ r.condition (.tick d t) s := by
  obtain ⟨hex, harmed, ⟨n, hn, hle⟩, htime⟩ := h
  intro hc
  cases r with
  | absent => simp [Refusal.condition, hex] at hc
  | notArmed => simp [Refusal.condition, harmed] at hc
  | early => exact hle.not_gt (hc n hn)
  | time => exact htime.not_gt hc
  | _ => exact hc

theorem State.configureAdmits.not_condition (h : s.configureAdmits dataPin clockPin g inv t) :
    ¬ r.condition (.configure id dataPin clockPin g inv t) s := by
  obtain ⟨hex, ⟨hmin, hmax⟩, hinv, ⟨hne, hdata, hclock⟩, htime⟩ := h
  intro hc
  cases r with
  | reconfig => simp [Refusal.condition, hex] at hc
  | gain => exact hc.elim hmin.not_gt hmax.not_gt
  | invert => exact hinv.elim hc.1 hc.2
  | pins => exact hc.elim hne (fun hpin => hpin.elim hdata hclock)
  | time => exact htime.not_gt hc
  | _ => exact hc

theorem State.queryAdmits.not_condition (h : s.queryAdmits id t) :
    ¬ r.condition (.query id en probe t) s := by
  obtain ⟨hex, hid, htime⟩ := h
  intro hc
  cases r with
  | absent => simp [Refusal.condition, hex] at hc
  | id => exact hc hid
  | time => exact htime.not_gt hc
  | _ => exact hc

theorem State.consumeAdmits.not_condition (h : s.consumeAdmits t) : ¬ r.condition (.consume t) s := by
  obtain ⟨hex, htime⟩ := h
  intro hc
  cases r with
  | absent => simp [Refusal.condition, hex] at hc
  | time => exact htime.not_gt hc
  | _ => exact hc

/-- R132's table says exactly which events the admission rules let through. -/
theorem refusal_eq_none_iff : e.refusal s = none ↔ ∀ r : Refusal, ¬ r.condition e s := by
  constructor
  · intro h r
    cases e with
    | tick => exact (tickRefusal_none_iff.mp h).not_condition
    | configure => exact (configureRefusal_none_iff.mp h).not_condition
    | query => exact (queryRefusal_none_iff.mp h).not_condition
    | consume => exact (consumeRefusal_none_iff.mp h).not_condition
  · intro h
    exact Option.eq_none_iff_forall_ne_some.mpr fun r hr => h r (condition_of_refusal hr)

end

/-! ### The answer of a step with an event -/

/-- The answer `a` is the refusal `r` if there is one, and else a next state that records the time `t` and leaves the
events `rest`. -/
def AnswersWith (r : Option Refusal) (t : Nat) (rest : List Event) (a : Answer) : Prop :=
  ∃ x : State, a = admitted r (.next x) ∧ x.lastTime = t ∧ x.inbox = rest

section
variable {s s' : State} {e : Event} {rest : List Event} {i : Instr}

theorem exec_tick_answersWith (hi : i.isTick = true) (s : State) :
    AnswersWith (tickRefusal i.time s) i.time s.inbox (exec i s) := by
  cases i with
  | nrdy | start | rise | fallc | fallx | fallcEndr | fallcEnds | fallxEndr | fallxEnds =>
    exact ⟨_, rfl, by simp [Instr.time]⟩
  | _ => cases hi

theorem exec_queryHold_answersWith (id : Nat) (probe : Option Nat) (t : Nat) (s : State) :
    AnswersWith (queryRefusal id t s) t s.inbox (exec (.queryHold id probe t) s) := by
  refine ⟨_, rfl, ?_⟩
  cases s.params.enableRetrigger <;> simp

theorem exec_consume_answersWith (hi : i.isConsume = true) (s : State) :
    AnswersWith (consumeRefusal i.time s) i.time s.inbox (exec i s) := by
  cases i with
  | consumeIdle | consumeRpt => exact ⟨_, rfl, rfl, rfl⟩
  | consumePrb t =>
    refine ⟨_, rfl, ?_⟩
    rw [sample_eq_append]
    exact ⟨rfl, rfl⟩
  | _ => cases hi

/-- R130, R132: an event is refused by its admission rule alone; an admitted one is taken at its time. -/
theorem step_answersWith (hin : s.inbox = e :: rest) :
    AnswersWith (e.refusal s) e.time rest (step s) := by
  cases e with
  | tick drive t =>
    obtain ⟨i, hd⟩ : ∃ i, decode (eventWord (.tick drive t) { s with inbox := rest }) = .ok i :=
      ⟨_, decode_tick_eventWord drive t _⟩
    obtain ⟨hi, rfl⟩ := decode_tick_isTick hd
    rw [step_of_decode hin hd]
    exact exec_tick_answersWith hi _
  | configure id dataPin clockPin g inv t => exact ⟨_, step_of_decode hin rfl, rfl, rfl⟩
  | query id en probe t =>
    rw [step_of_decode hin (decode_query_eventWord id en probe t _)]
    split_ifs
    · exact exec_queryHold_answersWith id probe t _
    · exact ⟨_, rfl, rfl, rfl⟩
    · exact ⟨_, rfl, rfl, rfl⟩
  | consume t =>
    rw [step_of_decode hin (decode_consume_eventWord t _)]
    split_ifs
    · exact exec_consume_answersWith (i := .consumeRpt t) rfl _
    · exact exec_consume_answersWith (i := .consumePrb t) rfl _
    · exact exec_consume_answersWith (i := .consumeIdle t) rfl _

theorem step_refused_iff (hin : s.inbox = e :: rest) {r : Refusal} :
    step s = .refused r ↔ e.refusal s = some r := by
  obtain ⟨x, hx, -⟩ := step_answersWith hin
  simp [hx, admitted_refused_iff]

theorem exists_step_next (hin : s.inbox = e :: rest) (h : e.refusal s = none) : ∃ s', step s = .next s' := by
  obtain ⟨x, hx, -⟩ := step_answersWith hin
  exact ⟨x, hx.trans (admitted_next_iff.mpr ⟨h, rfl⟩)⟩

theorem step_next_takes_event (hin : s.inbox = e :: rest) (h : step s = .next s') :
    e.refusal s = none ∧ s'.lastTime = e.time ∧ s'.inbox = rest := by
  obtain ⟨x, hx, htaken⟩ := step_answersWith hin
  obtain ⟨hadm, hs'⟩ := admitted_next_iff.mp (hx.symm.trans h)
  cases hs'
  exact ⟨hadm, htaken⟩

end

/-! ### The obligations -/

/-- Settles O25: a step is refused exactly by the event's admission rule, and that rule lets an event through exactly when
no row of the table applies. -/
theorem refusedExactlyByTheTable : Obligations.RefusedExactlyByTheTable := by
  intro s e rest hin
  constructor
  · intro r h
    exact condition_of_refusal ((step_refused_iff hin).mp h)
  · rintro ⟨r, hr⟩
    have hsome : e.refusal s ≠ none := fun hnone => refusal_eq_none_iff.mp hnone r hr
    obtain ⟨r', hr'⟩ := Option.ne_none_iff_exists'.mp hsome
    exact ⟨r', (step_refused_iff hin).mpr hr'⟩

/-- Settles O26: there is no fault, and an event that no row refuses passes its admission rule. -/
theorem admittedEventsComplete : Obligations.AdmittedEventsComplete := by
  intro s
  constructor
  · intro f
    cases f
  · intro e rest hin h
    exact exists_step_next hin (refusal_eq_none_iff.mpr h)

/-- Settles O32: a taken event was not refused for `RF_TIME`. -/
theorem timeNeverDecreases : Obligations.TimeNeverDecreases := by
  intro s s' e rest hin h
  obtain ⟨hadm, htime, hrest⟩ := step_next_takes_event hin h
  have hle : s.lastTime ≤ e.time :=
    Nat.le_of_not_lt (mt condition_time_iff.mpr (refusal_eq_none_iff.mp hadm .time))
  exact ⟨htime, htime ▸ hle, hrest⟩

end Sys2Proof.Machine

/-! ## Reset and hazards (`70_reset_and_hazards.md`): the state before `CONFIGURE`, quiescence, and timing

First which parts of an event see its time at all: each part, seen without times, acts on the state without times. So an
operation at any time is simulated by the same operation at time 0 on the state without times. Then what leaves
quiescence. -/

namespace Sys2Proof

@[simp] theorem Instr.withTime_withTime (i : Instr) (t u : Nat) : (i.withTime t).withTime u = i.withTime u := by
  cases i <;> rfl

end Sys2Proof

namespace Sys2Proof.Machine

/-! ### The state without its times (R94, R161) -/

@[simp] theorem Output.reschedule_untimed (due : Nat) :
    (Output.reschedule due).untimed = .reschedule 0 := rfl

@[simp] theorem Output.stop_untimed : Output.stop.untimed = .stop := rfl

@[simp] theorem Output.stateReport_untimed (id ts : Nat) (v : Word) :
    (Output.stateReport id ts v).untimed = .stateReport id 0 v := rfl

@[simp] theorem Output.probeSample_untimed (p : Nat) (v : Word) (ts : Nat) :
    (Output.probeSample p v ts).untimed = .probeSample p v 0 := rfl

@[simp] theorem Output.untimed_untimed (o : Output) : o.untimed.untimed = o.untimed := by
  cases o <;> rfl

section
variable (s : State)

@[simp] theorem State.untimed_untimed : s.untimed.untimed = s.untimed := by
  simp [State.untimed, Params.untimed, Function.comp_def]

@[simp] theorem State.untimed_enableRetrigger :
    s.untimed.params.enableRetrigger = s.params.enableRetrigger := rfl
@[simp] theorem State.untimed_id : s.untimed.id = s.id := rfl
@[simp] theorem State.untimed_invert : s.untimed.invert = s.invert := rfl
@[simp] theorem State.untimed_pulseIndex : s.untimed.pulseIndex = s.pulseIndex := rfl
@[simp] theorem State.untimed_shiftAccumulator : s.untimed.shiftAccumulator = s.shiftAccumulator := rfl
@[simp] theorem State.untimed_probeRef : s.untimed.probeRef = s.probeRef := rfl
@[simp] theorem State.untimed_reportedResult : s.untimed.reportedResult = s.reportedResult := rfl

@[simp] theorem State.seen_untimed (t : Nat) : (s.seen t).untimed = s.untimed := rfl

@[simp] theorem State.emit_untimed (o : Output) : (s.emit o).untimed = s.untimed.emit o.untimed := by
  simp [State.emit, State.untimed]

@[simp] theorem State.portWrite_untimed (b : Level) : (s.portWrite b).untimed = s.untimed.portWrite b := rfl

@[simp] theorem State.schedule_untimed (due : Nat) : (s.schedule due).untimed = s.untimed.schedule 0 := rfl

@[simp] theorem State.cancel_untimed : s.cancel.untimed = s.untimed.cancel := rfl

@[simp] theorem State.wake_untimed : s.wake.untimed = s.untimed.wake := rfl

@[simp] theorem State.clearPending_untimed : s.clearPending.untimed = s.untimed.clearPending := rfl

@[simp] theorem State.setPulseIndex_untimed (n : Nat) :
    (s.setPulseIndex n).untimed = s.untimed.setPulseIndex n := rfl

@[simp] theorem State.setAccumulator_untimed (w : Word) :
    (s.setAccumulator w).untimed = s.untimed.setAccumulator w := rfl

@[simp] theorem State.setResult_untimed (w : Word) : (s.setResult w).untimed = s.untimed.setResult w := rfl

@[simp] theorem State.setRequest_untimed (en : Bool) (probe : Option Nat) :
    (s.setRequest en probe).untimed = s.untimed.setRequest en probe := rfl

@[simp] theorem State.configured_untimed (id dataPin clockPin g : Nat) (inv : Int) :
    (s.configured id dataPin clockPin g inv).untimed = s.untimed.configured id dataPin clockPin g inv := rfl

@[simp] theorem State.tookTimestamp_untimed : s.tookTimestamp.untimed = s.untimed := rfl

@[simp] theorem State.sample_id (ts : Nat) (v : Word) : (s.sample ts v).id = s.id := by
  rw [sample_eq_append]

@[simp] theorem State.sample_untimed (ts : Nat) (v : Word) :
    (s.sample ts v).untimed = s.untimed.sample 0 v := by
  cases hprobe : s.probeRef with
  | none => simp [hprobe]
  | some p => simp [hprobe]

end

/-! ### An operation at any time is that at time 0 without times -/

section
variable {s s' : State} {i : Instr} {t : Nat}

theorem State.tickAdmits.untimed (h : s.tickAdmits t) : s.untimed.tickAdmits 0 := by
  obtain ⟨hex, harmed, ⟨n, hn, -⟩, -⟩ := h
  exact ⟨hex, harmed, ⟨0, by simp [State.untimed, hn], le_rfl⟩, le_rfl⟩

theorem State.configureAdmits.untimed {dataPin clockPin g : Nat} {inv : Int}
    (h : s.configureAdmits dataPin clockPin g inv t) : s.untimed.configureAdmits dataPin clockPin g inv 0 := by
  obtain ⟨hex, hgain, hinv, hpins, -⟩ := h
  exact ⟨hex, hgain, hinv, hpins, le_rfl⟩

theorem State.queryAdmits.untimed {id : Nat} (h : s.queryAdmits id t) : s.untimed.queryAdmits id 0 := by
  obtain ⟨hex, hid, -⟩ := h
  exact ⟨hex, hid, le_rfl⟩

theorem State.consumeAdmits.untimed (h : s.consumeAdmits t) : s.untimed.consumeAdmits 0 :=
  ⟨h.1, le_rfl⟩

/-- R94, R161: an admitted operation, whenever and with whatever delays it is performed, does to the state without times
what it does there at time 0. -/
theorem exec_untimed_of_next (h : exec i s = .next s') :
    ∃ x, exec (i.withTime 0) s.untimed = .next x ∧ x.untimed = s'.untimed := by
  cases i with
  | nrdy t =>
    obtain ⟨hadm, rfl⟩ := exec_nrdy_next_iff.mp h
    exact ⟨_, exec_nrdy_next_iff.mpr ⟨hadm.untimed, rfl⟩, by simp⟩
  | start t =>
    obtain ⟨hadm, rfl⟩ := exec_start_next_iff.mp h
    exact ⟨_, exec_start_next_iff.mpr ⟨hadm.untimed, rfl⟩, by simp⟩
  | rise t =>
    obtain ⟨hadm, rfl⟩ := exec_rise_next_iff.mp h
    exact ⟨_, exec_rise_next_iff.mpr ⟨hadm.untimed, rfl⟩, by simp⟩
  | fallc d t =>
    obtain ⟨hadm, rfl⟩ := exec_fallc_next_iff.mp h
    exact ⟨_, exec_fallc_next_iff.mpr ⟨hadm.untimed, rfl⟩, by simp⟩
  | fallx t =>
    obtain ⟨hadm, rfl⟩ := exec_fallx_next_iff.mp h
    exact ⟨_, exec_fallx_next_iff.mpr ⟨hadm.untimed, rfl⟩, by simp⟩
  | fallcEndr d t =>
    obtain ⟨hadm, rfl⟩ := exec_fallcEndr_next_iff.mp h
    exact ⟨_, exec_fallcEndr_next_iff.mpr ⟨hadm.untimed, rfl⟩, by simp⟩
  | fallcEnds d t =>
    obtain ⟨hadm, rfl⟩ := exec_fallcEnds_next_iff.mp h
    exact ⟨_, exec_fallcEnds_next_iff.mpr ⟨hadm.untimed, rfl⟩, by simp⟩
  | fallxEndr t =>
    obtain ⟨hadm, rfl⟩ := exec_fallxEndr_next_iff.mp h
    exact ⟨_, exec_fallxEndr_next_iff.mpr ⟨hadm.untimed, rfl⟩, by simp⟩
  | fallxEnds t =>
    obtain ⟨hadm, rfl⟩ := exec_fallxEnds_next_iff.mp h
    exact ⟨_, exec_fallxEnds_next_iff.mpr ⟨hadm.untimed, rfl⟩, by simp⟩
  | configure id dataPin clockPin g inv t =>
    obtain ⟨hadm, rfl⟩ := exec_configure_next_iff.mp h
    exact ⟨_, exec_configure_next_iff.mpr ⟨hadm.untimed, rfl⟩, by simp⟩
  | queryArm id probe t =>
    obtain ⟨hadm, rfl⟩ := exec_queryArm_next_iff.mp h
    exact ⟨_, exec_queryArm_next_iff.mpr ⟨hadm.untimed, rfl⟩, by simp⟩
  | queryHold id probe t =>
    obtain ⟨hadm, rfl⟩ := exec_queryHold_next_iff.mp h
    exact ⟨_, exec_queryHold_next_iff.mpr ⟨hadm.untimed, rfl⟩, by simp [apply_ite State.untimed]⟩
  | queryDis id probe t =>
    obtain ⟨hadm, rfl⟩ := exec_queryDis_next_iff.mp h
    exact ⟨_, exec_queryDis_next_iff.mpr ⟨hadm.untimed, rfl⟩, by simp⟩
  | consumeIdle t =>
    obtain ⟨hadm, rfl⟩ := exec_consumeIdle_next_iff.mp h
    exact ⟨_, exec_consumeIdle_next_iff.mpr ⟨hadm.untimed, rfl⟩, by simp⟩
  | consumeRpt t =>
    obtain ⟨hadm, rfl⟩ := exec_consumeRpt_next_iff.mp h
    exact ⟨_, exec_consumeRpt_next_iff.mpr ⟨hadm.untimed, rfl⟩, by simp⟩
  | consumePrb t =>
    obtain ⟨hadm, rfl⟩ := exec_consumePrb_next_iff.mp h
    exact ⟨_, exec_consumePrb_next_iff.mpr ⟨hadm.untimed, rfl⟩, by simp⟩

end

/-! ### Quiescence (R164) -/

section
variable {s s' : State} {id t : Nat} {en : Bool} {probe : Option Nat} {rest : List Event}

/-- R112: a `QUERY` has its effect only for this device's `id`. -/
theorem step_query_admits (hin : s.inbox = .query id en probe t :: rest) (h : step s = .next s') :
    s.queryAdmits id t :=
  queryRefusal_none_iff.mp (step_next_takes_event hin h).1

theorem step_disable_quiescent (hq : s.quiescent) (hin : s.inbox = .query id false probe t :: rest)
    (h : step s = .next s') : s'.quiescent := by
  rw [step_query_next hin h, if_neg (by simp)]
  exact hq

theorem step_consume_quiescent (hq : s.quiescent) (hin : s.inbox = .consume t :: rest)
    (h : step s = .next s') : s'.quiescent := by
  obtain ⟨-, last, os, draws, rfl⟩ := step_consume_next hin h
  exact ⟨hq.1, rfl⟩

end

/-! ### The obligations -/

/-- Settles O45: a `TICK` needs an armed engine (R80), a `CONFIGURE` and a `CONSUME` leave quiescence, and of the
`QUERY`s, all of them for this `id`, so do those that disable. -/
theorem quiescenceLeftOnlyByEnable : Obligations.QuiescenceLeftOnlyByEnable := by
  intro s s' e rest hq hin h
  cases e with
  | tick drive t =>
    obtain ⟨⟨-, harmed, -⟩, -⟩ := step_tick_next hin h
    exact absurd (hq.1.symm.trans harmed) Bool.false_ne_true
  | configure id dataPin clockPin g inv t =>
    rw [step_configure_next hin h]
    exact .inl ⟨rfl, rfl⟩
  | query id en probe t =>
    cases en with
    | false => exact .inl (step_disable_quiescent hq hin h)
    | true =>
      obtain ⟨-, hid, -⟩ := step_query_admits hin h
      exact .inr ⟨id, probe, t, hid, rfl⟩
  | consume t => exact .inl (step_consume_quiescent hq hin h)

/-- Settles O49: both operations are simulated by one and the same, at time 0 on the common state without times. -/
theorem dataIndependentOfTiming : Obligations.DataIndependentOfTiming := by
  intro i t u a b a' b' hab ha hb
  obtain ⟨x, hx, hxa⟩ := exec_untimed_of_next ha
  obtain ⟨y, hy, hyb⟩ := exec_untimed_of_next hb
  rw [Instr.withTime_withTime] at hx hy
  have hxy : x = y := Host.Outcome.next.inj (hx.symm.trans (hab ▸ hy))
  rw [← hxa, ← hyb, hxy]

/-- Settles O28: the fields as R150 and R25 give them before `CONFIGURE`. -/
theorem resetHasNoRecord : Obligations.ResetHasNoRecord :=
  ⟨rfl, rfl, rfl, rfl, rfl, rfl, rfl⟩

end Sys2Proof.Machine
